-- ==== Sys2Proof/Word.lean ====
section
/-! DEFINITION. The word types of the block (`spec/00_scope.md` rule R10): the bit vectors the spec names. -/

namespace Sys2Proof

/-- A byte: 8 bits, bit 7 the most significant (R10). -/
abbrev Byte := BitVec 8

/-- A five-bit ADC register address (R33, R63). -/
abbrev RegAddr := BitVec 5

/-- A 24-bit sample as it travels, `m0 ++ m1 ++ m2` (R51). -/
abbrev Sample := BitVec 24

/-- A reference voltage, UQ16.16 (R22): `VREF_W` = 32, `VREF_F` = 16. -/
abbrev Volts := BitVec 32

/-- The `data` field of a result, 56 bits (R30); a voltage in it is SQ17.39: `VOLT_W` = 56, `VOLT_F` = 39 (R183). -/
abbrev Data := BitVec 56

/-- A host request word: `op` in bits 35 to 32, `arg` in bits 31 to 0 (R80). -/
abbrev RequestWord := BitVec 36

end Sys2Proof
end

