-- ==== Sys2Proof/Config.lean ====
section
/-! DEFINITION. The implementation parameters of the block (`spec/00_scope.md` rule R8), their default values, and
the free values: opaque constants with no body, of which nothing can be proved. -/

namespace Sys2Proof

/-- The parameters of R8. A state carries one set (`Machine.State.cfg`), which no operation changes, so a statement
about every state is one about every parameter set. Durations are numbers of one unit of time that no rule fixes (R260). -/
structure Config where
  /-- `CMD_NOP` -/
  cmdNop : Byte
  /-- `CMD_WAKEUP` -/
  cmdWakeup : Byte
  /-- `CMD_POWERDOWN` -/
  cmdPowerdown : Byte
  /-- `CMD_RESET` -/
  cmdReset : Byte
  /-- `CMD_START` -/
  cmdStart : Byte
  /-- `CMD_STOP` -/
  cmdStop : Byte
  /-- `CMD_SYOCAL` -/
  cmdSyocal : Byte
  /-- `CMD_SYGCAL` -/
  cmdSygcal : Byte
  /-- `CMD_SFOCAL` -/
  cmdSfocal : Byte
  /-- `CMD_RDATA` -/
  cmdRdata : Byte
  /-- `CMD_RREG`, a base that an address would be OR-ed into (R87) -/
  cmdRreg : Byte
  /-- `CMD_WREG`, a base that an address is OR-ed into (R86) -/
  cmdWreg : Byte
  /-- `REG_MIN` -/
  regMin : RegAddr
  /-- `REG_MAX` -/
  regMax : RegAddr
  /-- `REG_INPMUX` -/
  regInpmux : RegAddr
  /-- `REG_REF` -/
  regRef : RegAddr
  /-- `NEG_INPUT_SELECT`, low nibble of the input-multiplexer value (R34, C1) -/
  negInputSelect : BitVec 4
  /-- `CHAN_MAX` -/
  chanMax : BitVec 4
  /-- `DEFAULT_CHANNEL` -/
  defaultChannel : BitVec 4
  /-- `DEFAULT_VREF` -/
  defaultVref : Volts
  /-- `REF_INTERNAL_PATTERN` (OPEN) -/
  refInternalPattern : Byte
  /-- `REF_EXTERNAL_PATTERN` (OPEN) -/
  refExternalPattern : Byte
  /-- `DUMMY` -/
  dummy : Byte
  /-- `T_POWERUP_SETTLE` (OPEN) -/
  tPowerupSettle : Nat
  /-- `T_RESET_LOW` (OPEN) -/
  tResetLow : Nat
  /-- `T_POST_RESET` (OPEN) -/
  tPostReset : Nat
  /-- `T_START_LOW` (OPEN) -/
  tStartLow : Nat
  /-- `T_INTER_CMD` (OPEN) -/
  tInterCmd : Nat
  /-- `DRDY_ACTIVE_LOW` -/
  drdyActiveLow : Bool
  deriving DecidableEq, Repr

/-- Free value: `REF_INTERNAL_PATTERN`, OPEN in R8 (log 4). -/
opaque Config.openRefInternal : Byte
/-- Free value: where `REF_EXTERNAL_PATTERN` lies, counted on from `REF_INTERNAL_PATTERN` (log 4). -/
opaque Config.openRefOffset : Nat
/-- Free value: `T_POWERUP_SETTLE`, OPEN in R8 (log 4). -/
opaque Config.openPowerupSettle : Nat
/-- Free value: `T_RESET_LOW`, OPEN in R8 (log 4). -/
opaque Config.openResetLow : Nat
/-- Free value: by how much `T_POST_RESET` exceeds `T_RESET_LOW`, less one (R9 item f; log 4). -/
opaque Config.openPostResetExcess : Nat
/-- Free value: `T_START_LOW`, OPEN in R8 (log 4). -/
opaque Config.openStartLow : Nat
/-- Free value: `T_INTER_CMD`, OPEN in R8 (log 4). -/
opaque Config.openInterCmd : Nat

/-- Free value: whether the environment answers its n-th question with a transport fault (R7; log 2). -/
opaque Config.freeBusFault : Nat → Bool
/-- Free value: the first byte the environment returns at its n-th question (R7; log 2). -/
opaque Config.freeByte0 : Nat → Byte
/-- Free value: the second byte the environment returns at its n-th question (R7; log 2). -/
opaque Config.freeByte1 : Nat → Byte
/-- Free value: the third byte the environment returns at its n-th question (R7; log 2). -/
opaque Config.freeByte2 : Nat → Byte
/-- Free value: the electrical level of the data-ready pin at the n-th question (R7; log 2). -/
opaque Config.freeDrdyPin : Nat → Bool

/-- The defaults of R8. PRESUMED (log 5): command bytes and register addresses are the spec's defaults, marked there as
general knowledge. The OPEN parameters are free values, built so that every pair of different patterns and every pair
of durations with `T_POST_RESET > T_RESET_LOW` (R9 items c and f), and no other, can be had (log 4). -/
def Config.default : Config where
  cmdNop := 0x00
  cmdWakeup := 0x02
  cmdPowerdown := 0x04
  cmdReset := 0x06
  cmdStart := 0x08
  cmdStop := 0x0A
  cmdSyocal := 0x16
  cmdSygcal := 0x17
  cmdSfocal := 0x19
  cmdRdata := 0x12
  cmdRreg := 0x20
  cmdWreg := 0x40
  regMin := 0x00
  regMax := 0x11
  regInpmux := 0x02
  regRef := 0x05
  negInputSelect := 0xC
  chanMax := 11
  defaultChannel := 0
  defaultVref := 0x00028000
  refInternalPattern := Config.openRefInternal
  refExternalPattern := Config.openRefInternal + BitVec.ofNat 8 (1 + Config.openRefOffset % 255)
  dummy := 0x00
  tPowerupSettle := Config.openPowerupSettle
  tResetLow := Config.openResetLow
  tPostReset := Config.openResetLow + 1 + Config.openPostResetExcess
  tStartLow := Config.openStartLow
  tInterCmd := Config.openInterCmd
  drdyActiveLow := true

end Sys2Proof
end

