-- ==== Sys2Proof/Syntax.lean ====
section
/-! DEFINITION. The instructions of the block: one constructor per row of `spec/opcode_table.json`, twelve of the host
layer (`spec/30_encoding.md` rule R81) and fifteen of the wire layer (rule R84). -/

namespace Sys2Proof

/-- The `path` operand of READ_INT and READ_VOLT (R82): bit 0 of `arg`, 0 FREEWHEEL, 1 RDATA. -/
inductive ReadPath where
  /-- the freewheel path, `raw_freewheel` (R161) -/
  | freewheel
  /-- the command-based path, `raw_rdata` (R165) -/
  | rdata
  deriving DecidableEq, Repr

/-- One constructor per row of the opcode table, with the operands the row's fields give it. Bits a row ignores are no
operand (R82, R92 item b). -/
inductive Instr where
  /-- BRINGUP (R130) -/
  | bringup
  /-- ENCODE_WRITE `register`, `value` (R110) -/
  | encodeWrite (register : RegAddr) (value : Byte)
  /-- ENCODE_COMMAND `code` (R111) -/
  | encodeCommand (code : Byte)
  /-- SET_CHANNEL: `channel` is a 32-bit two's-complement integer (R150) -/
  | setChannel (channel : BitVec 32)
  /-- SET_REFERENCE: `volts` is UQ16.16 (R200) -/
  | setReference (volts : Volts)
  /-- IS_DATA_READY (R160) -/
  | isDataReady
  /-- READ_RAW (R162) -/
  | readRaw
  /-- READ_RDATA (R164) -/
  | readRdata
  /-- READ_INT `path` (R184) -/
  | readInt (path : ReadPath)
  /-- READ_VOLT `path` (R188) -/
  | readVolt (path : ReadPath)
  /-- RESERVED_A_B: `op` 0xA or 0xB, `low` its low bit (R92 item a, R214) -/
  | reservedAB (low : BitVec 1)
  /-- RESERVED_C_F: `op` 0xC to 0xF, `low` its low two bits (R92 item a, R214) -/
  | reservedCF (low : BitVec 2)
  /-- CMD_NOP, a CMD1 frame (R85) -/
  | cmdNop
  /-- CMD_WAKEUP, a CMD1 frame (R85) -/
  | cmdWakeup
  /-- CMD_POWERDOWN, a CMD1 frame (R85) -/
  | cmdPowerdown
  /-- CMD_RESET, a CMD1 frame (R85) -/
  | cmdReset
  /-- CMD_START, a CMD1 frame (R85) -/
  | cmdStart
  /-- CMD_STOP, a CMD1 frame (R85) -/
  | cmdStop
  /-- CMD_SYOCAL, a CMD1 frame (R85) -/
  | cmdSyocal
  /-- CMD_SYGCAL, a CMD1 frame (R85) -/
  | cmdSygcal
  /-- CMD_SFOCAL, a CMD1 frame (R85) -/
  | cmdSfocal
  /-- CMD_RREG, a CMD1 frame holding the base value (R85, R87) -/
  | cmdRreg
  /-- WREG, a WREG3 frame (R86) -/
  | wreg (register : RegAddr) (value : Byte)
  /-- WREG_INPMUX, the WREG3 frame to `REG_INPMUX`; the value's two nibbles (R34, R90) -/
  | wregInpmux (channel : BitVec 4) (negative : BitVec 4)
  /-- WREG_REF, the WREG3 frame to `REG_REF` (R35) -/
  | wregRef (pattern : Byte)
  /-- RD3, the freewheel sample read (R88) -/
  | rd3
  /-- RDATA4, the command-based sample read (R89) -/
  | rdata4
  deriving DecidableEq, Repr

/-- Whether a row belongs to the table's host layer (R81) rather than to its wire layer (R84). -/
def Instr.isHost : Instr → Bool
  | .bringup | .encodeWrite _ _ | .encodeCommand _ | .setChannel _ | .setReference _ | .isDataReady | .readRaw
  | .readRdata | .readInt _ | .readVolt _ | .reservedAB _ | .reservedCF _ => true
  | .cmdNop | .cmdWakeup | .cmdPowerdown | .cmdReset | .cmdStart | .cmdStop | .cmdSyocal | .cmdSygcal | .cmdSfocal
  | .cmdRreg | .wreg _ _ | .wregInpmux _ _ | .wregRef _ | .rd3 | .rdata4 => false

/-- What an instruction is encoded as: the two layers of `spec/30_encoding.md`. -/
inductive Code where
  /-- a 36-bit host request word (R80) -/
  | request (word : RequestWord)
  /-- the bytes of a wire frame, the first on the wire first (R84) -/
  | frame (bytes : List Byte)
  deriving DecidableEq, Repr

end Sys2Proof
end

