-- ==== Sys2Proof/WellFormed.lean ====
section
/-! DEFINITION. Which parameter sets are well formed (`spec/00_scope.md` rule R9), and which instructions are: every
host operation with every operand (R82, R92), and the wire frames whose fields hold what the opcode table says. -/

namespace Sys2Proof

/-- R9, items (a) to (f); item (g) holds by type. -/
def Config.wellFormed (c : Config) : Bool :=
  (c.cmdWreg &&& 0x1F == 0) && (c.cmdRreg &&& 0x1F == 0)
    && (c.regMin ≤ c.regInpmux) && (c.regInpmux ≤ c.regMax)
    && (c.regMin ≤ c.regRef) && (c.regRef ≤ c.regMax) && (c.regInpmux != c.regRef)
    && (c.refInternalPattern != c.refExternalPattern)
    && (c.negInputSelect == 0xC || c.negInputSelect == 0x0)
    && (c.defaultChannel ≤ c.chanMax)
    && (c.tResetLow < c.tPostReset)

/-- The parameters to which M1 itself gives a value have that value (R8, column "value in M1"): the register range,
the highest channel, the default reference, the dummy byte and the data-ready polarity. -/
def Config.hasM1Values (c : Config) : Bool :=
  c.regMin == 0x00 && c.regMax == 0x11 && c.chanMax == 11 && c.defaultVref == 0x00028000 && c.dummy == 0x00
    && c.drdyActiveLow

/-- The ten one-byte codes of the table's CMD1 rows, in the table's order. -/
def Config.cmd1Codes (c : Config) : List Byte :=
  [c.cmdNop, c.cmdWakeup, c.cmdPowerdown, c.cmdReset, c.cmdStart, c.cmdStop, c.cmdSyocal, c.cmdSygcal, c.cmdSfocal,
    c.cmdRreg]

/-- No two frames of the table have the same bytes: the CMD1 codes differ, and a WREG3 frame cannot begin with the
dummy byte of RD3. The defaults of R8 have it; R9 does not ask for it, and what the decoder does without it is log 26. -/
def Config.framesDistinct (c : Config) : Bool :=
  decide c.cmd1Codes.Nodup && (c.dummy &&& 0xE0 != c.cmdWreg &&& 0xE0)

/-- Well-formed instructions under a parameter set. A host operation always is. A WREG frame names a register of the
range (R86) that has no row of its own; a WREG_INPMUX frame holds a legal channel and a legal low nibble (R34); a
WREG_REF frame holds one of the two patterns (R35). -/
def Instr.wellFormed (c : Config) : Instr → Bool
  | .bringup => true
  | .encodeWrite _ _ => true
  | .encodeCommand _ => true
  | .setChannel _ => true
  | .setReference _ => true
  | .isDataReady => true
  | .readRaw => true
  | .readRdata => true
  | .readInt _ => true
  | .readVolt _ => true
  | .reservedAB _ => true
  | .reservedCF _ => true
  | .cmdNop => true
  | .cmdWakeup => true
  | .cmdPowerdown => true
  | .cmdReset => true
  | .cmdStart => true
  | .cmdStop => true
  | .cmdSyocal => true
  | .cmdSygcal => true
  | .cmdSfocal => true
  | .cmdRreg => true
  | .wreg r _ => (c.regMin ≤ r) && (r ≤ c.regMax) && (r != c.regInpmux) && (r != c.regRef)
  | .wregInpmux ch neg => (ch ≤ c.chanMax) && (neg == 0xC || neg == 0x0)
  | .wregRef p => p == c.refInternalPattern || p == c.refExternalPattern
  | .rd3 => true
  | .rdata4 => true

end Sys2Proof
end

