-- ==== Sys2Proof/Decode.lean ====
section
/-! DEFINITION. The decoder and the encoder of both layers (`spec/30_encoding.md`): host request words (R80 to R83) and
wire frames (R84 to R90). Decoding a request word never fails; decoding the bytes of a frame refuses by name. -/

namespace Sys2Proof

/-- Why the bytes of a frame are no row of the opcode table. -/
inductive DecodeError where
  /-- one byte that is none of the ten CMD1 codes -/
  | notACommand (byte : Byte)
  /-- three bytes that are neither RD3 nor a WREG3 frame -/
  | notAThreeByteFrame (b0 b1 b2 : Byte)
  /-- four bytes that are not RDATA4 -/
  | notAFourByteFrame (b0 b1 b2 b3 : Byte)
  /-- a length no format has (R84) -/
  | noSuchLength (length : Nat)
  deriving DecidableEq, Repr

/-! ## The encoder functions of `spec/40_encoder.md` and the computed register value -/

/-- The first byte of a register write: `CMD_WREG | zext_8(register)` (R86). -/
def wregByte (c : Config) (register : RegAddr) : Byte := c.cmdWreg ||| register.setWidth 8

/-- `encode_write(register, value)` (R112): three bytes, the middle one zero. -/
def encodeWriteBytes (c : Config) (register : RegAddr) (value : Byte) : List Byte :=
  [wregByte c register, 0x00, value]

/-- `encode_command(code)` (R113). -/
def encodeCommandByte (code : Byte) : Byte := code

/-- The input-multiplexer value (R90): `(zext_8(channel) << 4) | zext_8(low)`, the low nibble given. -/
def inpmuxWith (low : BitVec 4) (channel : BitVec 4) : Byte := (channel.setWidth 8 <<< 4) ||| low.setWidth 8

/-- `inpmux(channel)` (R90): the low nibble is `NEG_INPUT_SELECT`. -/
def inpmux (c : Config) (channel : BitVec 4) : Byte := inpmuxWith c.negInputSelect channel

/-- The three dummy bytes clocked out in a sample read (R61, R88). -/
def dummyBytes (c : Config) : List Byte := [c.dummy, c.dummy, c.dummy]

/-! ## Host request words -/

/-- `op`, bits 35 to 32 (R80). -/
def RequestWord.op (w : RequestWord) : BitVec 4 := w.extractLsb' 32 4

/-- `arg`, bits 31 to 0 (R80). -/
def RequestWord.arg (w : RequestWord) : BitVec 32 := w.extractLsb' 0 32

/-- The `path` operand, `arg[0]` (R82). -/
def pathOfBit (b : BitVec 1) : ReadPath := if b = 0 then .freewheel else .rdata

/-- The bit that names a path (R82). -/
def bitOfPath : ReadPath → BitVec 1
  | .freewheel => 0
  | .rdata => 1

/-- The host layer's decoder: operation codes of R81, operands of R82, reserved codes of R92 item a. Total. -/
def decodeRequest (w : RequestWord) : Instr :=
  match (RequestWord.op w).toNat with
  | 0 => .bringup
  | 1 => .encodeWrite ((RequestWord.arg w).extractLsb' 8 5) ((RequestWord.arg w).extractLsb' 0 8)
  | 2 => .encodeCommand ((RequestWord.arg w).extractLsb' 0 8)
  | 3 => .setChannel (RequestWord.arg w)
  | 4 => .setReference (RequestWord.arg w)
  | 5 => .isDataReady
  | 6 => .readRaw
  | 7 => .readRdata
  | 8 => .readInt (pathOfBit ((RequestWord.arg w).extractLsb' 0 1))
  | 9 => .readVolt (pathOfBit ((RequestWord.arg w).extractLsb' 0 1))
  | 10 => .reservedAB (w.extractLsb' 32 1)
  | 11 => .reservedAB (w.extractLsb' 32 1)
  | _ => .reservedCF (w.extractLsb' 32 2)

/-! ## Wire frames -/

/-- A CMD1 frame (R85): the code itself, among the ten that have a row. DESIGN CHOICE where a parameter set gives two rows one
code, which R9 allows: the row the opcode table lists first (log 26). -/
def decodeCommand (c : Config) (b : Byte) : Except DecodeError Instr :=
  if b = c.cmdNop then .ok .cmdNop
  else if b = c.cmdWakeup then .ok .cmdWakeup
  else if b = c.cmdPowerdown then .ok .cmdPowerdown
  else if b = c.cmdReset then .ok .cmdReset
  else if b = c.cmdStart then .ok .cmdStart
  else if b = c.cmdStop then .ok .cmdStop
  else if b = c.cmdSyocal then .ok .cmdSyocal
  else if b = c.cmdSygcal then .ok .cmdSygcal
  else if b = c.cmdSfocal then .ok .cmdSfocal
  else if b = c.cmdRreg then .ok .cmdRreg
  else .error (.notACommand b)

/-- The row a register write has: the two registers with rows of their own first (log 13). -/
def registerWriteInstr (c : Config) (r : RegAddr) (v : Byte) : Instr :=
  if r = c.regInpmux then .wregInpmux (v.extractLsb' 4 4) (v.extractLsb' 0 4)
  else if r = c.regRef then .wregRef v
  else .wreg r v

/-- A three-byte frame: RD3 (R88), or WREG3 with bits 7 to 5 of `CMD_WREG` and a zero count (R86). DESIGN CHOICE where
`CMD_WREG` and `DUMMY` are both 0x00, which R9 allows and which makes three zero bytes both rows: RD3 (log 26). -/
def decodeThree (c : Config) (b0 b1 b2 : Byte) : Except DecodeError Instr :=
  if [b0, b1, b2] = dummyBytes c then .ok .rd3
  else if b0.extractLsb' 5 3 = c.cmdWreg.extractLsb' 5 3 ∧ b1 = 0x00 then
    .ok (registerWriteInstr c (b0.extractLsb' 0 5) b2)
  else .error (.notAThreeByteFrame b0 b1 b2)

/-- A four-byte frame: RDATA4 (R89). -/
def decodeFour (c : Config) (b0 b1 b2 b3 : Byte) : Except DecodeError Instr :=
  if b0 = c.cmdRdata ∧ [b1, b2, b3] = dummyBytes c then .ok .rdata4
  else .error (.notAFourByteFrame b0 b1 b2 b3)

/-- The wire layer's decoder: the frame's kind fixes its length (R84). Total on any bytes. -/
def decodeFrame (c : Config) (bytes : List Byte) : Except DecodeError Instr :=
  match bytes with
  | [b] => decodeCommand c b
  | [b0, b1, b2] => decodeThree c b0 b1 b2
  | [b0, b1, b2, b3] => decodeFour c b0 b1 b2 b3
  | _ => .error (.noSuchLength bytes.length)

/-- The decoder of both layers. -/
def decode (c : Config) : Code → Except DecodeError Instr
  | .request w => .ok (decodeRequest w)
  | .frame bytes => decodeFrame c bytes

/-! ## The encoder of instructions -/

/-- A request word from its two fields (R80). -/
def requestOf (op : BitVec 4) (arg : BitVec 32) : Code := .request (op ++ arg)

/-- The words of an instruction, ignored bits zero: R81 and R82 for the host layer, R84 to R90 for the wire layer. -/
def encode (c : Config) : Instr → Code
  | .bringup => requestOf 0x0 0
  | .encodeWrite r v => requestOf 0x1 ((0 : BitVec 19) ++ r ++ v)
  | .encodeCommand b => requestOf 0x2 (b.setWidth 32)
  | .setChannel ch => requestOf 0x3 ch
  | .setReference v => requestOf 0x4 v
  | .isDataReady => requestOf 0x5 0
  | .readRaw => requestOf 0x6 0
  | .readRdata => requestOf 0x7 0
  | .readInt p => requestOf 0x8 ((bitOfPath p).setWidth 32)
  | .readVolt p => requestOf 0x9 ((bitOfPath p).setWidth 32)
  | .reservedAB low => requestOf ((0b101 : BitVec 3) ++ low) 0
  | .reservedCF low => requestOf ((0b11 : BitVec 2) ++ low) 0
  | .cmdNop => .frame [c.cmdNop]
  | .cmdWakeup => .frame [c.cmdWakeup]
  | .cmdPowerdown => .frame [c.cmdPowerdown]
  | .cmdReset => .frame [c.cmdReset]
  | .cmdStart => .frame [c.cmdStart]
  | .cmdStop => .frame [c.cmdStop]
  | .cmdSyocal => .frame [c.cmdSyocal]
  | .cmdSygcal => .frame [c.cmdSygcal]
  | .cmdSfocal => .frame [c.cmdSfocal]
  | .cmdRreg => .frame [c.cmdRreg]
  | .wreg r v => .frame (encodeWriteBytes c r v)
  | .wregInpmux ch neg => .frame (encodeWriteBytes c c.regInpmux (inpmuxWith neg ch))
  | .wregRef p => .frame (encodeWriteBytes c c.regRef p)
  | .rd3 => .frame (dummyBytes c)
  | .rdata4 => .frame (c.cmdRdata :: dummyBytes c)

/-! ## Words as the opcode table numbers them -/

/-- The `n` bytes of a frame that the table writes as one number, the first byte on the wire in the high bits. -/
def tableBytes : Nat → Nat → List Byte
  | 0, _ => []
  | n + 1, w => BitVec.ofNat 8 (w >>> (8 * n)) :: tableBytes n w

/-- What a word of the opcode table stands for (log 16): up to 32 bits, a wire frame of that many bits; more, a
request word. -/
def codeOfTableWord (nbits w : Nat) : Code :=
  if nbits ≤ 32 then .frame (tableBytes (nbits / 8) w) else .request (BitVec.ofNat 36 w)

/-- The instruction the decoder reads from a word of the opcode table, under the default parameters. -/
def decodeTableWord (nbits w : Nat) : Option Instr :=
  match decode Config.default (codeOfTableWord nbits w) with
  | .ok i => some i
  | .error _ => none

end Sys2Proof
end

