-- ==== Sys2Proof/Machine/State.lean ====
section
/-! DEFINITION. The state of the block: everything `spec/10_state.md` gives it, the ports, the run's observables
(`spec/70_reset_and_hazards.md` rule R247), and the environment's answers as plain data. -/

namespace Sys2Proof.Machine

/-- `PHASE` (R25), numbered 0 to 6 in this order; 7 is never reached and has no constructor (U14). -/
inductive Phase where
  /-- 0: no bring-up has completed since block reset, or the last one ended in a bus fault -/
  | unpowered
  /-- 1: bring-up steps 1 and 2 -/
  | hardReset
  /-- 2: bring-up step 3 -/
  | softReset
  /-- 3: bring-up step 4 -/
  | configuring
  /-- 4: bring-up step 5 -/
  | hardStart
  /-- 5: bring-up step 6 -/
  | softStart
  /-- 6: bring-up complete -/
  | ready
  deriving DecidableEq, Repr

/-- `REFMODE` (R20): 0 INTERNAL, 1 EXTERNAL. -/
inductive RefMode where
  /-- the internal 2.5 V reference -/
  | internal
  /-- external or other -/
  | external
  deriving DecidableEq, Repr

/-- The three output lines (R27, R32). -/
inductive LineName where
  /-- `CS`, chip-select -/
  | cs
  /-- `RST`, reset -/
  | rst
  /-- `SYNC`, sync/start -/
  | sync
  deriving DecidableEq, Repr

/-- The five durations a `Delay` event can name (R8, R12). -/
inductive DelayName where
  /-- `T_POWERUP_SETTLE` -/
  | powerupSettle
  /-- `T_RESET_LOW` -/
  | resetLow
  /-- `T_POST_RESET` -/
  | postReset
  /-- `T_START_LOW` -/
  | startLow
  /-- `T_INTER_CMD` -/
  | interCmd
  deriving DecidableEq, Repr

/-- The two Bus Transport calls (R31), as `BusFault(call)` names them. -/
inductive BusCall where
  /-- `write(bytes)` -/
  | write
  /-- `exchange(out_bytes) -> in_bytes` -/
  | exchange
  deriving DecidableEq, Repr

/-- The event alphabet (R12). -/
inductive Event where
  /-- `Line(l, v)`: output line `l` is driven to electrical level `v`, true for high -/
  | line (l : LineName) (v : Bool)
  /-- `Delay(p)`: nothing for at least the duration `cfg.p` -/
  | delay (p : DelayName)
  /-- `BusWrite(bs)` -/
  | busWrite (bytes : List Byte)
  /-- `BusXchg(out, in)` -/
  | busXchg (out answer : List Byte)
  /-- `BusFault(call)` -/
  | busFault (call : BusCall)
  /-- `DrdySample(v)`: `v` is true when the line is asserted -/
  | drdySample (v : Bool)
  deriving DecidableEq, Repr

/-- The statuses of R210, numbered 0 to 4 in this order; 5 to 7 are never produced and have no constructor (U14). -/
inductive Status where
  /-- 0: the operation completed -/
  | ok
  /-- 1: channel outside 0 to 11 -/
  | invalidChannel
  /-- 2: command-based read before a conversion was latched -/
  | dataNotReady
  /-- 3: transport-level failure -/
  | busFault
  /-- 4: a reserved operation code -/
  | illegalOp
  deriving DecidableEq, Repr

/-- What the result port presents (R30). -/
structure Result where
  /-- `status` -/
  status : Status
  /-- `data`, zero whenever `status` is not OK -/
  data : Data
  deriving DecidableEq, Repr

/-- What the environment would answer at one moment, whichever of its three questions it is asked (R6 item c, R7): it is
consulted once per question, and nothing relates one moment to the next. -/
structure EnvMoment where
  /-- a transport call made now fails -/
  busFault : Bool
  /-- the first byte an exchange made now captures -/
  m0 : Byte
  /-- the second byte -/
  m1 : Byte
  /-- the third byte -/
  m2 : Byte
  /-- the electrical level of the data-ready pin now, true for high -/
  drdyPin : Bool
  deriving DecidableEq, Repr

/-- The state of the block, its ports and the run's observables. -/
@[ext]
structure State where
  /-- the parameter set of the block (R8), constant for its life -/
  cfg : Config
  /-- `CHAN` (R21) -/
  chan : BitVec 4
  /-- `VREF` (R22) -/
  vref : Volts
  /-- `REFMODE` (R23) -/
  refmode : RefMode
  /-- `PHASE` (R25) -/
  phase : Phase
  /-- index of the next event in the running operation's event list (R26); 0 between operations -/
  position : Nat
  /-- `BUSY` (R26) -/
  busy : Bool
  /-- the level last driven on `CS` (R27), true for high -/
  cs : Bool
  /-- the level last driven on `RST` (R27) -/
  rst : Bool
  /-- the level last driven on `SYNC` (R27) -/
  sync : Bool
  /-- the request port (R29): what is presented and not yet accepted, oldest first; a `frame` in it is the model's own
  extension (log 11) -/
  pending : List Code
  /-- how many requests presented before the one the running operation answers are still held (R246, R247); 0 between
  operations (log 28) -/
  slot : Nat
  /-- the result port (R30): the last result, none after block reset and once the host has taken it (R28) -/
  resultPort : Option Result
  /-- the host's side of the result port, an input: whether it takes the result before each step to come, the next step
  first; where nothing is listed it does not (R28; log 27) -/
  taking : List Bool
  /-- the results of the run in request order (R247): one entry a request, none while the request is held (log 28) -/
  results : List (Option Result)
  /-- the event trace of the run (R14, R247) -/
  trace : List Event
  /-- the MODEL's own: what the environment answers next, one entry a question (log 2) -/
  env : List EnvMoment
  /-- the MODEL's own: how many questions the environment has been asked; it selects the free value that answers when
  `env` is empty (log 2) -/
  asked : Nat
  deriving DecidableEq, Repr

/-- The observable outcome of a run (R247). -/
structure RunOutcome where
  /-- the event trace -/
  trace : List Event
  /-- the list of results in request order -/
  results : List Result
  /-- `PHASE` -/
  phase : Phase
  /-- `CHAN` -/
  chan : BitVec 4
  /-- `VREF` -/
  vref : Volts
  /-- `REFMODE` -/
  refmode : RefMode
  /-- `CS` -/
  cs : Bool
  /-- `RST` -/
  rst : Bool
  /-- `SYNC` -/
  sync : Bool
  deriving DecidableEq, Repr

/-- Why the model stops. -/
inductive Fault where
  /-- Raised by the step when a wire frame was presented directly and its bytes are no row of the opcode table. Safe: the
  spec gives such a frame no meaning, and no host request can present one (log 14). -/
  | unknownFrame (reason : DecodeError)
  deriving DecidableEq, Repr

/-- Why an instruction is refused. -/
inductive Refusal where
  /-- Raised by `exec` for an instruction that has no meaning in the model yet; no arm raises it now. Safe: nothing is
  proved of a run that it ends. -/
  | notModelled (mnemonic : String)
  deriving DecidableEq, Repr

/-- Block reset under a parameter set: the middle column of R45 (R240). It emits no event. -/
def State.resetWith (c : Config) : State where
  cfg := c
  chan := c.defaultChannel
  vref := c.defaultVref
  refmode := .internal
  phase := .unpowered
  position := 0
  busy := false
  cs := true
  rst := true
  sync := true
  pending := []
  slot := 0
  resultPort := none
  taking := []
  results := []
  trace := []
  env := []
  asked := 0

/-- Block reset of the block with the default parameters of R8. -/
def State.reset : State := State.resetWith Config.default

end Sys2Proof.Machine
end

