-- ==== Sys2Proof/Machine/Operands.lean ====
section
/-! DEFINITION. The operand and result forms: the legal channels, the choice of a reference pattern, the bytes of a
sample, the data-ready level, result placement (`spec/30_encoding.md` rule R83), and the fixed-point converter
(`spec/44_conversion.md`). -/

namespace Sys2Proof.Machine

/-- SET_CHANNEL's test (R150): the whole 32-bit operand, as a signed integer, lies in 0 to `CHAN_MAX`. -/
def channelLegal (c : Config) (channel : BitVec 32) : Bool :=
  decide (0 ≤ channel.toInt) && decide (channel.toInt ≤ (c.chanMax.toNat : Int))

/-- `channel[3:0]` (R150). -/
def channelNibble (channel : BitVec 32) : BitVec 4 := channel.extractLsb' 0 4

/-- Exactly 2.5 V in UQ16.16 (R200, R201, D10). -/
def internalVolts : Volts := 0x00028000

/-- The mode SET_REFERENCE's operand selects (R200): bit equality with 2.5 V. -/
def refModeOf (volts : Volts) : RefMode := if volts = internalVolts then .internal else .external

/-- The register pattern of a reference mode (R35). -/
def refPattern (c : Config) : RefMode → Byte
  | .internal => c.refInternalPattern
  | .external => c.refExternalPattern

/-- The sample's bit vector from its bytes, most significant first (R51). -/
def sampleOf (m0 m1 m2 : Byte) : Sample := m0 ++ m1 ++ m2

/-- The three bytes an exchange made at a moment captures, `[m0, m1, m2]` (R31, R51). -/
def misoBytes (m : EnvMoment) : List Byte := [m.m0, m.m1, m.m2]

/-- The sample an exchange made at a moment captures (R51). -/
def misoSample (m : EnvMoment) : Sample := sampleOf m.m0 m.m1 m.m2

/-- The logical data-ready level (R32, D25): with `DRDY_ACTIVE_LOW`, asserted is the pin electrically low. DEDUCED for
the parameter's other value: asserted is the pin high (log 17). -/
def drdyAsserted (c : Config) (m : EnvMoment) : Bool := if c.drdyActiveLow then !m.drdyPin else m.drdyPin

/-- A byte string `[b0, b1, b2]` on the result port: `b0 ++ b1 ++ b2` in `data[23:0]` (R30, R83). No result carries a byte
string of another length. -/
def dataOfFrame : List Byte → Data
  | [b0, b1, b2] => (b0 ++ b1 ++ b2 : BitVec 24).setWidth 56
  | _ => 0

/-- A byte on the result port, zero-extended (R83). -/
def dataOfByte (b : Byte) : Data := b.setWidth 56

/-- A truth value on the result port: `data[0]` (R83). -/
def dataOfBool (v : Bool) : Data := if v then 1 else 0

/-- A raw sample on the result port, zero-extended (R83, C3). -/
def dataOfSample (r : Sample) : Data := r.setWidth 56

/-- A 32-bit signed result on the result port, sign-extended (R83). -/
def dataOfInt (i : BitVec 32) : Data := i.signExtend 56

/-- `sample_to_int` (R180): a zero byte is appended and the 32 bits are shifted right arithmetically by 8. -/
def sampleToInt (r : Sample) : BitVec 32 := (r ++ (0 : Byte) : BitVec 32).sshiftRight 8

/-- `int_to_volt` (R183): the exact product of the signed integer and the unsigned reference, held in 56 bits. -/
def intToVolt (i : BitVec 32) (vref : Volts) : Data := BitVec.ofInt 56 (i.toInt * (vref.toNat : Int))

end Sys2Proof.Machine
end

