-- ==== Sys2Proof/Machine/Ops.lean ====
section
/-! DEFINITION. The primitives of `spec/00_scope.md` rule R14, the transactions of `spec/40_encoder.md` section 3 and the
read procedures of `spec/43_read_handshake.md`, `raise` (`spec/60_exceptions.md` rule R216), and how an operation begins
and ends. -/

namespace Sys2Proof.Machine

/-- How a procedure of the pseudocode ends: with a value, or by `raise X` (R14). -/
inductive Flow (α : Type) where
  /-- it ran to its end and gave `a` -/
  | done (a : α) (s : State)
  /-- it met `raise x`: no later line of the operation runs -/
  | raised (x : Status) (s : State)
  deriving DecidableEq, Repr

/-- Run the rest of an operation after a procedure, unless the procedure raised. -/
def Flow.andThen {α β : Type} (f : Flow α) (g : α → State → Flow β) : Flow β :=
  match f with
  | .done a s => g a s
  | .raised x s => .raised x s

/-- The state a procedure leaves, however it ends. -/
def Flow.state {α : Type} : Flow α → State
  | .done _ s => s
  | .raised _ s => s

/-! ## Events and lines -/

/-- `emit E` (R14): the event goes to the trace and the position advances by one (R26). -/
def emit (e : Event) (s : State) : State := { s with trace := s.trace ++ [e], position := s.position + 1 }

/-- `Line(l, v)` (R14, R27): the event, and the line register takes the level. -/
def driveLine (l : LineName) (v : Bool) (s : State) : State :=
  match l with
  | .cs => { emit (.line .cs v) s with cs := v }
  | .rst => { emit (.line .rst v) s with rst := v }
  | .sync => { emit (.line .sync v) s with sync := v }

/-- `Delay(p)` (R14, R140): an event with no upper bound and no other effect. -/
def delay (p : DelayName) (s : State) : State := emit (.delay p) s

/-- The duration a `Delay` waits at least (R12): the parameter it names. -/
def delayBound (c : Config) : DelayName → Nat
  | .powerupSettle => c.tPowerupSettle
  | .resetLow => c.tResetLow
  | .postReset => c.tPostReset
  | .startLow => c.tStartLow
  | .interCmd => c.tInterCmd

/-! ## The environment -/

/-- What the environment answers at its n-th question where `env` names nothing: free values (log 2). -/
def freeMoment (n : Nat) : EnvMoment where
  busFault := Config.freeBusFault n
  m0 := Config.freeByte0 n
  m1 := Config.freeByte1 n
  m2 := Config.freeByte2 n
  drdyPin := Config.freeDrdyPin n

/-- What the environment answers at the k-th question from now, the next one being question 0 (R7). -/
def answer (s : State) (k : Nat) : EnvMoment :=
  match s.env[k]? with
  | some m => m
  | none => freeMoment (s.asked + k)

/-- The state after `n` questions have been put to the environment. -/
def consume (n : Nat) (s : State) : State := { s with env := s.env.drop n, asked := s.asked + n }

/-! ## Bus calls and the data-ready sample -/

/-- `BusWrite(bs)` (R14): the event, or `BusFault(write)` in its place and `raise BusFault`. -/
def busWrite (bytes : List Byte) (s : State) : Flow Unit :=
  if (answer s 0).busFault then .raised .busFault (emit (.busFault .write) (consume 1 s))
  else .done () (emit (.busWrite bytes) (consume 1 s))

/-- `in <- BusXchg(out)` of three bytes (R14, R50): the event with the bytes captured, or `BusFault(exchange)` in its place
and `raise BusFault`. -/
def busXchg (out : List Byte) (s : State) : Flow Sample :=
  if (answer s 0).busFault then .raised .busFault (emit (.busFault .exchange) (consume 1 s))
  else .done (misoSample (answer s 0)) (emit (.busXchg out (misoBytes (answer s 0))) (consume 1 s))

/-- `v <- SampleDrdy()` (R14): one event; a Digital Line cannot fault (R213). -/
def sampleDrdy (s : State) : Flow Bool :=
  .done (drdyAsserted s.cfg (answer s 0)) (emit (.drdySample (drdyAsserted s.cfg (answer s 0))) (consume 1 s))

/-! ## Transactions and read procedures -/

/-- Chip-select framing (R56): `Line(CS, 0)`, the calls, `Line(CS, 1)`. -/
def inFrame {α : Type} (calls : State → Flow α) (s : State) : Flow α :=
  (calls (driveLine .cs false s)).andThen fun a t => .done a (driveLine .cs true t)

/-- `WriteReg(register, value)` (R114). -/
def writeReg (register : RegAddr) (value : Byte) (s : State) : Flow Unit :=
  inFrame (busWrite (encodeWriteBytes s.cfg register value)) s

/-- `SendCmd(code)` (R115). -/
def sendCmd (code : Byte) (s : State) : Flow Unit := inFrame (busWrite [encodeCommandByte code]) s

/-- `raw_freewheel()` (R161): one frame holding one exchange. -/
def rawFreewheel (s : State) : Flow Sample := inFrame (busXchg (dummyBytes s.cfg)) s

/-- The frame RDATA4 (R89): one frame holding the read-data command and one exchange. -/
def rdataFrame (s : State) : Flow Sample :=
  inFrame (fun t => (busWrite [s.cfg.cmdRdata] t).andThen fun _ u => busXchg (dummyBytes s.cfg) u) s

/-- `raw_rdata()` (R165): one data-ready sample, DataNotReady when it is false, then the frame RDATA4. -/
def rawRdata (s : State) : Flow Sample :=
  (sampleDrdy s).andThen fun v t => if v then rdataFrame t else .raised .dataNotReady t

/-- The read path READ_INT and READ_VOLT choose (R184, R188). -/
def rawByPath : ReadPath → State → Flow Sample
  | .freewheel => rawFreewheel
  | .rdata => rawRdata

/-! ## Registers -/

/-- `pc <- p` (R11): `PHASE <- p`. -/
def setPhase (p : Phase) (s : State) : State := { s with phase := p }

/-- `x[CHAN] <- v` (R11). -/
def setChan (v : BitVec 4) (s : State) : State := { s with chan := v }

/-- `x[VREF] <- v ; x[REFMODE] <- m` (R200, R130). -/
def setRef (v : Volts) (m : RefMode) (s : State) : State := { s with vref := v, refmode := m }

/-! ## The beginning and the end of an operation -/

/-- An operation starts: `BUSY` holds while it runs and its event list is at its first event (R26). -/
def startOperation (s : State) : State := { s with busy := true, position := 0 }

/-- The results of the run in request order (R247) with one more: that of the request before which `n` requests are still
held, so the n-th entry that holds no result, counted from 0 (log 28). -/
def fillSlot (r : Result) : Nat → List (Option Result) → List (Option Result)
  | n, [] => List.replicate n none ++ [some r]
  | n, some x :: l => some x :: fillSlot r n l
  | 0, none :: l => some r :: l
  | n + 1, none :: l => none :: fillSlot r n l

/-- An operation ends: the result goes to the result port and, in request order, to the run's results (R30, R247); `BUSY`
falls (R26). -/
def present (r : Result) (s : State) : State :=
  { s with
    busy := false
    position := 0
    slot := 0
    resultPort := some r
    results := fillSlot r s.slot s.results }

/-- R216 (2): a frame left open is closed. -/
def closeFrame (s : State) : State := if s.cs then s else driveLine .cs true s

/-- What `raise X` does before the result (R216). For InvalidChannel, DataNotReady and IllegalOp: nothing. For BusFault: an
open frame is closed and, in BRINGUP, `PHASE <- Unpowered`; the registers the operation had not written stay as they are,
because no later line of it runs. -/
def raiseCleanup (inBringup : Bool) (x : Status) (s : State) : State :=
  match x with
  | .ok => s
  | .invalidChannel => s
  | .dataNotReady => s
  | .illegalOp => s
  | .busFault => if inBringup then setPhase .unpowered (closeFrame s) else closeFrame s

/-- `raise X` (R14, R216): the clean-up, then the result `(X, 0)`. This is the one way an error is taken. There is no handler
and so nothing to return from (R222): the next thing that happens is the next request. -/
def raise (inBringup : Bool) (x : Status) (s : State) : State := present ⟨x, 0⟩ (raiseCleanup inBringup x s)

/-- The end of an operation: `return (OK, d)`, or `raise X` (R14). -/
def conclude (inBringup : Bool) : Flow Data → State
  | .done d s => present ⟨.ok, d⟩ s
  | .raised x s => raise inBringup x s

end Sys2Proof.Machine
end

