-- ==== Sys2Proof/Machine/Bringup.lean ====
section
/-! DEFINITION. BRINGUP (`spec/41_bringup.md` rule R130), one definition per step of the sequence. -/

namespace Sys2Proof.Machine

/-- The first line of R130: the three data registers take their defaults, before any event (R137). -/
def bringupDefaults (s : State) : State := setRef s.cfg.defaultVref .internal (setChan s.cfg.defaultChannel s)

/-- Steps 1 and 2, `HardReset` (R131, R132). -/
def bringupHardReset (s : State) : State :=
  let s1 := setPhase .hardReset s
  let s2 := delay .powerupSettle (driveLine .sync true (driveLine .rst true (driveLine .cs true s1)))
  driveLine .rst true (delay .resetLow (driveLine .rst false s2))

/-- Step 3, `SoftReset` (R133). -/
def bringupSoftReset (s : State) : Flow Unit :=
  (sendCmd s.cfg.cmdReset (setPhase .softReset s)).andThen fun _ t => .done () (delay .postReset t)

/-- Step 4, `Configuring` (R134): the input multiplexer first, then the reference. -/
def bringupConfiguring (s : State) : Flow Unit :=
  (writeReg s.cfg.regInpmux (inpmux s.cfg s.cfg.defaultChannel) (setPhase .configuring s)).andThen fun _ t =>
    writeReg t.cfg.regRef t.cfg.refInternalPattern t

/-- Step 5, `HardStart` (R135). -/
def bringupHardStart (s : State) : State :=
  driveLine .sync true (delay .startLow (driveLine .sync false (setPhase .hardStart s)))

/-- Step 6, `SoftStart` (R136). -/
def bringupSoftStart (s : State) : Flow Unit :=
  (sendCmd s.cfg.cmdStart (setPhase .softStart s)).andThen fun _ t => .done () (delay .interCmd t)

/-- The whole sequence (R130, R138); step 7 is `PHASE <- Ready` (R137). -/
def bringupSequence (s : State) : Flow Data :=
  (bringupSoftReset (bringupHardReset (bringupDefaults s))).andThen fun _ s3 =>
    (bringupConfiguring s3).andThen fun _ s4 =>
      (bringupSoftStart (bringupHardStart s4)).andThen fun _ s6 => .done 0 (setPhase .ready s6)

/-- BRINGUP (R130). A bus fault returns `PHASE` to `Unpowered` (R216 (4)). -/
def execBringup (s : State) : Host.Outcome State Fault Refusal :=
  .next (conclude true (bringupSequence (startOperation s)))

end Sys2Proof.Machine
end

