-- ==== Sys2Proof/Machine/ChannelSelect.lean ====
section
/-! DEFINITION. SET_CHANNEL (`spec/42_channel_select.md` rule R150). -/

namespace Sys2Proof.Machine

/-- The pseudocode of R150: the range test first, then the write, then `CHAN`. -/
def setChannel (channel : BitVec 32) (s : State) : Flow Data :=
  if channelLegal s.cfg channel then
    (writeReg s.cfg.regInpmux (inpmux s.cfg (channelNibble channel)) s).andThen fun _ t =>
      .done 0 (setChan (channelNibble channel) t)
  else .raised .invalidChannel s

/-- SET_CHANNEL (R150). -/
def execSetChannel (channel : BitVec 32) (s : State) : Host.Outcome State Fault Refusal :=
  .next (conclude false (setChannel channel (startOperation s)))

end Sys2Proof.Machine
end

