-- ==== Sys2Proof/Machine/Conversion.lean ====
section
/-! DEFINITION. READ_INT and READ_VOLT (`spec/44_conversion.md` rules R184 and R188). -/

namespace Sys2Proof.Machine

/-- READ_INT (R184): the sample of the chosen path, sign-extended. -/
def execReadInt (path : ReadPath) (s : State) : Host.Outcome State Fault Refusal :=
  .next (conclude false ((rawByPath path (startOperation s)).andThen fun r t => .done (dataOfInt (sampleToInt r)) t))

/-- READ_VOLT (R188): the same integer times `VREF` as it stood at acceptance. -/
def execReadVolt (path : ReadPath) (s : State) : Host.Outcome State Fault Refusal :=
  .next (conclude false
    ((rawByPath path (startOperation s)).andThen fun r t => .done (intToVolt (sampleToInt r) s.vref) t))

end Sys2Proof.Machine
end

