-- ==== Sys2Proof/Machine/Encoder.lean ====
section
/-! DEFINITION. ENCODE_WRITE and ENCODE_COMMAND (`spec/40_encoder.md` rules R110 and R111): pure, no event, no state. -/

namespace Sys2Proof.Machine

/-- ENCODE_WRITE (R110): the frame of R112 in `data[23:0]`. -/
def execEncodeWrite (register : RegAddr) (value : Byte) (s : State) : Host.Outcome State Fault Refusal :=
  .next (conclude false (.done (dataOfFrame (encodeWriteBytes s.cfg register value)) (startOperation s)))

/-- ENCODE_COMMAND (R111): the byte of R113 in `data[7:0]`. -/
def execEncodeCommand (code : Byte) (s : State) : Host.Outcome State Fault Refusal :=
  .next (conclude false (.done (dataOfByte (encodeCommandByte code)) (startOperation s)))

end Sys2Proof.Machine
end

