-- ==== Sys2Proof/Machine/ReadHandshake.lean ====
section
/-! DEFINITION. IS_DATA_READY, READ_RAW and READ_RDATA (`spec/43_read_handshake.md` rules R160, R162 and R164). -/

namespace Sys2Proof.Machine

/-- IS_DATA_READY (R160): one sample of the line. -/
def execIsDataReady (s : State) : Host.Outcome State Fault Refusal :=
  .next (conclude false ((sampleDrdy (startOperation s)).andThen fun v t => .done (dataOfBool v) t))

/-- READ_RAW (R162): the freewheel path, which looks at no data-ready line (R163). -/
def execReadRaw (s : State) : Host.Outcome State Fault Refusal :=
  .next (conclude false ((rawFreewheel (startOperation s)).andThen fun r t => .done (dataOfSample r) t))

/-- READ_RDATA (R164): the command-based path. -/
def execReadRdata (s : State) : Host.Outcome State Fault Refusal :=
  .next (conclude false ((rawRdata (startOperation s)).andThen fun r t => .done (dataOfSample r) t))

end Sys2Proof.Machine
end

