-- ==== Sys2Proof/Machine/ReferenceSelect.lean ====
section
/-! DEFINITION. SET_REFERENCE (`spec/45_reference_select.md` rule R200). -/

namespace Sys2Proof.Machine

/-- The pseudocode of R200: the pattern by equality with 2.5 V, the write, then `VREF` and `REFMODE`. -/
def setReference (volts : Volts) (s : State) : Flow Data :=
  (writeReg s.cfg.regRef (refPattern s.cfg (refModeOf volts)) s).andThen fun _ t =>
    .done 0 (setRef volts (refModeOf volts) t)

/-- SET_REFERENCE (R200). -/
def execSetReference (volts : Volts) (s : State) : Host.Outcome State Fault Refusal :=
  .next (conclude false (setReference volts (startOperation s)))

end Sys2Proof.Machine
end

