-- ==== Sys2Proof/Machine/Reserved.lean ====
section
/-! DEFINITION. The reserved operation codes (`spec/60_exceptions.md` rule R214): the operation ends at once with status
IllegalOp, no event and no state change. -/

namespace Sys2Proof.Machine

/-- `op` 0xA and 0xB (R214). -/
def execReservedAB (_low : BitVec 1) (s : State) : Host.Outcome State Fault Refusal :=
  .next (conclude false (.raised .illegalOp (startOperation s)))

/-- `op` 0xC to 0xF (R214). -/
def execReservedCF (_low : BitVec 2) (s : State) : Host.Outcome State Fault Refusal :=
  .next (conclude false (.raised .illegalOp (startOperation s)))

end Sys2Proof.Machine
end

