-- ==== Sys2Proof/Machine/Wire.lean ====
section
/-! DEFINITION. The wire rows of the opcode table (`spec/30_encoding.md` rules R84 to R90), each as the transaction that
sends its frame: `SendCmd` (R115) for a CMD1 frame, `WriteReg` (R114) for a WREG3 frame, the read procedures' frames for
RD3 (R161) and RDATA4 (R89, R165). No host request reaches them; how they are presented and what they leave on the result
port is the model's choice (log 11). No data register is written: only BRINGUP, SET_CHANNEL and SET_REFERENCE do (R20). -/

namespace Sys2Proof.Machine

/-- A CMD1 frame on its own: `SendCmd(code)` (R115). -/
def sendCommandFrame (code : Byte) (s : State) : State :=
  conclude false ((sendCmd code (startOperation s)).andThen fun _ t => .done 0 t)

/-- A WREG3 frame on its own: `WriteReg(register, value)` (R114). -/
def sendRegisterFrame (register : RegAddr) (value : Byte) (s : State) : State :=
  conclude false ((writeReg register value (startOperation s)).andThen fun _ t => .done 0 t)

/-- CMD_NOP (R85). -/
def execCmdNop (s : State) : Host.Outcome State Fault Refusal := .next (sendCommandFrame s.cfg.cmdNop s)

/-- CMD_WAKEUP (R85). -/
def execCmdWakeup (s : State) : Host.Outcome State Fault Refusal := .next (sendCommandFrame s.cfg.cmdWakeup s)

/-- CMD_POWERDOWN (R85). -/
def execCmdPowerdown (s : State) : Host.Outcome State Fault Refusal := .next (sendCommandFrame s.cfg.cmdPowerdown s)

/-- CMD_RESET (R85). -/
def execCmdReset (s : State) : Host.Outcome State Fault Refusal := .next (sendCommandFrame s.cfg.cmdReset s)

/-- CMD_START (R85). -/
def execCmdStart (s : State) : Host.Outcome State Fault Refusal := .next (sendCommandFrame s.cfg.cmdStart s)

/-- CMD_STOP (R85). -/
def execCmdStop (s : State) : Host.Outcome State Fault Refusal := .next (sendCommandFrame s.cfg.cmdStop s)

/-- CMD_SYOCAL (R85). -/
def execCmdSyocal (s : State) : Host.Outcome State Fault Refusal := .next (sendCommandFrame s.cfg.cmdSyocal s)

/-- CMD_SYGCAL (R85). -/
def execCmdSygcal (s : State) : Host.Outcome State Fault Refusal := .next (sendCommandFrame s.cfg.cmdSygcal s)

/-- CMD_SFOCAL (R85). -/
def execCmdSfocal (s : State) : Host.Outcome State Fault Refusal := .next (sendCommandFrame s.cfg.cmdSfocal s)

/-- CMD_RREG (R85). -/
def execCmdRreg (s : State) : Host.Outcome State Fault Refusal := .next (sendCommandFrame s.cfg.cmdRreg s)

/-- WREG (R86). -/
def execWreg (register : RegAddr) (value : Byte) (s : State) : Host.Outcome State Fault Refusal :=
  .next (sendRegisterFrame register value s)

/-- WREG_INPMUX (R86, R90): the register is `REG_INPMUX`, the value the two nibbles. -/
def execWregInpmux (channel negative : BitVec 4) (s : State) : Host.Outcome State Fault Refusal :=
  .next (sendRegisterFrame s.cfg.regInpmux (inpmuxWith negative channel) s)

/-- WREG_REF (R86, R35): the register is `REG_REF`. -/
def execWregRef (pattern : Byte) (s : State) : Host.Outcome State Fault Refusal :=
  .next (sendRegisterFrame s.cfg.regRef pattern s)

/-- RD3 (R88, R161): the three bytes captured are the result. -/
def execRd3 (s : State) : Host.Outcome State Fault Refusal :=
  .next (conclude false ((rawFreewheel (startOperation s)).andThen fun r t => .done (dataOfSample r) t))

/-- RDATA4 (R89): the frame alone, without the data-ready sample that `raw_rdata` takes before it (log 12). -/
def execRdata4 (s : State) : Host.Outcome State Fault Refusal :=
  .next (conclude false ((rdataFrame (startOperation s)).andThen fun r t => .done (dataOfSample r) t))

end Sys2Proof.Machine
end

