-- ==== Sys2Proof/Machine/Dispatch.lean ====
section
/-! DEFINITION. The dispatch: one arm per constructor of `Instr`, each one call of its meaning. An operation reaches its arm
once it is accepted; acceptance (R246) is the step's (`Machine/Port.lean`). -/

namespace Sys2Proof.Machine

def exec (i : Instr) (s : State) : Host.Outcome State Fault Refusal :=
  match i with
  | .bringup => Sys2Proof.Machine.execBringup s
  | .encodeWrite r v => Sys2Proof.Machine.execEncodeWrite r v s
  | .encodeCommand code => Sys2Proof.Machine.execEncodeCommand code s
  | .setChannel channel => Sys2Proof.Machine.execSetChannel channel s
  | .setReference volts => Sys2Proof.Machine.execSetReference volts s
  | .isDataReady => Sys2Proof.Machine.execIsDataReady s
  | .readRaw => Sys2Proof.Machine.execReadRaw s
  | .readRdata => Sys2Proof.Machine.execReadRdata s
  | .readInt path => Sys2Proof.Machine.execReadInt path s
  | .readVolt path => Sys2Proof.Machine.execReadVolt path s
  | .reservedAB low => Sys2Proof.Machine.execReservedAB low s
  | .reservedCF low => Sys2Proof.Machine.execReservedCF low s
  | .cmdNop => Sys2Proof.Machine.execCmdNop s
  | .cmdWakeup => Sys2Proof.Machine.execCmdWakeup s
  | .cmdPowerdown => Sys2Proof.Machine.execCmdPowerdown s
  | .cmdReset => Sys2Proof.Machine.execCmdReset s
  | .cmdStart => Sys2Proof.Machine.execCmdStart s
  | .cmdStop => Sys2Proof.Machine.execCmdStop s
  | .cmdSyocal => Sys2Proof.Machine.execCmdSyocal s
  | .cmdSygcal => Sys2Proof.Machine.execCmdSygcal s
  | .cmdSfocal => Sys2Proof.Machine.execCmdSfocal s
  | .cmdRreg => Sys2Proof.Machine.execCmdRreg s
  | .wreg r v => Sys2Proof.Machine.execWreg r v s
  | .wregInpmux ch neg => Sys2Proof.Machine.execWregInpmux ch neg s
  | .wregRef p => Sys2Proof.Machine.execWregRef p s
  | .rd3 => Sys2Proof.Machine.execRd3 s
  | .rdata4 => Sys2Proof.Machine.execRdata4 s

end Sys2Proof.Machine
end

