-- ==== Sys2Proof/Machine/Port.lean ====
section
/-! DEFINITION. The request port: which requests are accepted (`spec/70_reset_and_hazards.md` rule R246), which one the step
takes, the host's side of the result port, the end of a run, and how a word of the opcode table is presented. -/

namespace Sys2Proof.Machine

/-- The operations accepted in `Ready` only: the last row of R246's table. -/
def readyOnly : Instr → Bool
  | .setChannel _ => true
  | .setReference _ => true
  | .isDataReady => true
  | .readRaw => true
  | .readRdata => true
  | .readInt _ => true
  | .readVolt _ => true
  | .bringup => false
  | .encodeWrite _ _ => false
  | .encodeCommand _ => false
  | .reservedAB _ => false
  | .reservedCF _ => false
  | .cmdNop => false
  | .cmdWakeup => false
  | .cmdPowerdown => false
  | .cmdReset => false
  | .cmdStart => false
  | .cmdStop => false
  | .cmdSyocal => false
  | .cmdSygcal => false
  | .cmdSfocal => false
  | .cmdRreg => false
  | .wreg _ _ => false
  | .wregInpmux _ _ => false
  | .wregRef _ => false
  | .rd3 => false
  | .rdata4 => false

/-- The phase half of R246's condition, for what is presented: a frame that decodes to nothing waits for nothing. -/
def phaseAdmits (c : Config) (p : Phase) (code : Code) : Bool :=
  match decode c code with
  | .ok i => !readyOnly i || decide (p = .ready)
  | .error _ => true

/-- R246: the block is idle, and the phase admits the operation. -/
def accepts (s : State) (code : Code) : Bool := !s.busy && phaseAdmits s.cfg s.phase code

/-- The oldest of a list that a test admits, between what stands before it and what stands after it. -/
def takeFirst (p : Code → Bool) : List Code → Option (List Code × Code × List Code)
  | [] => none
  | c :: cs =>
    if p c then some ([], c, cs)
    else
      match takeFirst p cs with
      | some (before, d, after) => some (c :: before, d, after)
      | none => none

/-- What the port hands to the block now: the oldest presented request that R246 admits; what stands before it stays held
(log 8). None when there is none: the block waits (log 9). -/
def nextAccepted (s : State) : Option (List Code × Code × List Code) := takeFirst (accepts s) s.pending

/-- The state with a request accepted that stood between `before`, which stays held, and `after`: it is gone from the port,
being read once, at acceptance (R29, R68), and its result will stand behind those of the held ones (R247). -/
def acceptRequest (before after : List Code) (s : State) : State :=
  { s with pending := before ++ after, slot := before.length }

/-- The host's side of the result port, before a step: where the host takes the result, the port keeps it no longer (R28;
log 27). -/
def hostTakes (s : State) : State :=
  match s.taking with
  | [] => s
  | true :: later => { s with taking := later, resultPort := none }
  | false :: later => { s with taking := later }

/-- The phase in which the port accepts a code at once (log 15): `Ready` for an operation accepted only there. -/
def admittingPhase (c : Config) (p : Phase) (code : Code) : Phase := if phaseAdmits c p code then p else .ready

/-- A code presented to an idle block, ahead of all others, in a phase that accepts it (log 15). -/
def presentFirst (code : Code) (s : State) : State :=
  { s with pending := code :: s.pending, busy := false, phase := admittingPhase s.cfg s.phase code }

/-- One operation, or none: the oldest accepted request is taken from the port, decoded and run (R13, R246). With none,
nothing happens: the block waits, and a held request is neither dropped nor answered. -/
def runAccepted (s : State) : Host.Outcome State Fault Refusal :=
  match nextAccepted s with
  | none => .next s
  | some (before, code, after) =>
    match decode s.cfg code with
    | .ok i => exec i (acceptRequest before after s)
    | .error e => .fault (.unknownFrame e)

/-! ## The end of a run (R247) -/

/-- The run has ended: the host has no more requests, the block is idle and no request is held. DESIGN CHOICE: "the host has
no more requests" is read as `pending` being empty, the list standing for all that the host still has for the block (log 29). -/
def runEnded (s : State) : Bool := s.pending.isEmpty && !s.busy

/-- The block is stuck, and the run has not ended: it is idle and every presented request is held (R246). DESIGN CHOICE: with
`pending` all that the host still has, none of its requests can lift the hold (log 29). -/
def stuck (s : State) : Bool := !s.busy && !s.pending.isEmpty && (nextAccepted s).isNone

/-- The result of the k-th request of the run, counted from 0 in request order; none while it has not been answered. -/
def resultOf (s : State) (k : Nat) : Option Result := (s.results[k]?).join

/-- The observable outcome of a run (R247). -/
def runOutcome (s : State) : RunOutcome where
  trace := s.trace
  results := s.results.filterMap id
  phase := s.phase
  chan := s.chan
  vref := s.vref
  refmode := s.refmode
  cs := s.cs
  rst := s.rst
  sync := s.sync

end Sys2Proof.Machine
end

