-- ==== Sys2Proof/Machine/Step.lean ====
section
/-! DEFINITION. The step of the machine, and how the host of this package presents one word of the opcode table to it. -/

namespace Sys2Proof.Machine

/-- One step: the host takes the result or does not (`hostTakes`), then the block runs one operation or waits
(`runAccepted`). -/
def step (s : State) : Host.Outcome State Fault Refusal := runAccepted (hostTakes s)

/-- The state with one word of the opcode table presented so that the very next step runs it (log 15, log 16). -/
def State.withFetchWord (s : State) (nbits w : Nat) : State := presentFirst (codeOfTableWord nbits w) s

end Sys2Proof.Machine
end

