-- ==== Sys2Proof/Machine/Flags.lean ====
section
/-! DEFINITION. The block has no flag (`spec/10_state.md` rule R28); this file holds what stands in a flag's place: the
numbers of the enumerations (R20, R25, R210) and which operation can end with which status (R215). -/

namespace Sys2Proof.Machine

/-- The number of a status on the result port, 3 bits (R210). -/
def statusCode : Status → BitVec 3
  | .ok => 0
  | .invalidChannel => 1
  | .dataNotReady => 2
  | .busFault => 3
  | .illegalOp => 4

/-- The number of a phase, 3 bits (R25). -/
def phaseCode : Phase → BitVec 3
  | .unpowered => 0
  | .hardReset => 1
  | .softReset => 2
  | .configuring => 3
  | .hardStart => 4
  | .softStart => 5
  | .ready => 6

/-- The number of a reference mode, 1 bit (R20). -/
def refModeCode : RefMode → BitVec 1
  | .internal => 0
  | .external => 1

/-- Which statuses an operation can end with: the table of R215, the reserved codes (R214), and the transactions of the
wire rows, which have bus calls and no validation (log 11). -/
def mayEndWith (i : Instr) (x : Status) : Bool :=
  match i with
  | .encodeWrite _ _ | .encodeCommand _ | .isDataReady => x == .ok
  | .setChannel _ => x == .ok || x == .invalidChannel || x == .busFault
  | .readRdata | .readInt .rdata | .readVolt .rdata => x == .ok || x == .dataNotReady || x == .busFault
  | .reservedAB _ | .reservedCF _ => x == .illegalOp
  | .bringup | .setReference _ | .readRaw | .readInt .freewheel | .readVolt .freewheel => x == .ok || x == .busFault
  | .cmdNop | .cmdWakeup | .cmdPowerdown | .cmdReset | .cmdStart | .cmdStop | .cmdSyocal | .cmdSygcal | .cmdSfocal
  | .cmdRreg | .wreg _ _ | .wregInpmux _ _ | .wregRef _ | .rd3 | .rdata4 => x == .ok || x == .busFault

end Sys2Proof.Machine
end

