-- ==== Sys2Proof/Safety.lean ====
section
/-! DEFINITION. What counts as a legal state and a well-behaved trace, in the spec's terms: the register invariants
(`spec/10_state.md` rules R21, R23, R25, R27), the discipline of the lines (R27, R56, R217) and the frame formats (R50, R84);
and the words in which statements describe the state an operation leaves. -/

namespace Sys2Proof.Machine

/-! ## The state an operation leaves -/

/-- `s` after an operation that emitted `events`, put `questions` questions to the environment and ended with `r`. The
registers and lines it changed are said beside it; everything else is as in `s`. -/
def afterOperation (events : List Event) (questions : Nat) (r : Result) (s : State) : State :=
  { s with
    trace := s.trace ++ events
    env := s.env.drop questions
    asked := s.asked + questions
    busy := false
    position := 0
    slot := 0
    resultPort := some r
    results := fillSlot r s.slot s.results }

/-- `s` with chip-select high, as every operation that opens a frame leaves it (R56). -/
def csHigh (s : State) : State := { s with cs := true }

/-- `s` with the three lines high, as BRINGUP leaves them (R217, R137). -/
def linesHigh (s : State) : State := { s with cs := true, rst := true, sync := true }

/-- A frame of one `BusWrite` (R114, R115). -/
def writeEvents (bytes : List Byte) : List Event := [.line .cs false, .busWrite bytes, .line .cs true]

/-- What a frame emits whose first `BusWrite` fails (R216). -/
def writeFaultEvents : List Event := [.line .cs false, .busFault .write, .line .cs true]

/-- The freewheel read's frame, the environment answering `m` (R88, R161). -/
def freewheelEvents (c : Config) (m : EnvMoment) : List Event :=
  [.line .cs false, .busXchg (dummyBytes c) (misoBytes m), .line .cs true]

/-- What the freewheel read emits when its exchange fails (R216). -/
def freewheelFaultEvents : List Event := [.line .cs false, .busFault .exchange, .line .cs true]

/-- The command-based read's frame, the environment answering `m` (R89, R165). -/
def rdataEvents (c : Config) (m : EnvMoment) : List Event :=
  [.line .cs false, .busWrite [c.cmdRdata], .busXchg (dummyBytes c) (misoBytes m), .line .cs true]

/-- What the command-based read's frame emits when its exchange fails (R216). -/
def rdataFaultEvents (c : Config) : List Event :=
  [.line .cs false, .busWrite [c.cmdRdata], .busFault .exchange, .line .cs true]

/-- The 24 events of a BRINGUP without a bus fault (R138), split where a bus call can fail: before the RESET command, … -/
def bringupEvents1 : List Event :=
  [.line .cs true, .line .rst true, .line .sync true, .delay .powerupSettle,
    .line .rst false, .delay .resetLow, .line .rst true]

/-- … the RESET command and its hold, … -/
def bringupEvents2 (c : Config) : List Event := writeEvents [c.cmdReset] ++ [.delay .postReset]

/-- … the input-multiplexer write, … -/
def bringupEvents3 (c : Config) : List Event :=
  writeEvents [c.cmdWreg ||| c.regInpmux.setWidth 8, 0x00, inpmux c c.defaultChannel]

/-- … the reference write, … -/
def bringupEvents4 (c : Config) : List Event :=
  writeEvents [c.cmdWreg ||| c.regRef.setWidth 8, 0x00, c.refInternalPattern]

/-- … the sync pulse, … -/
def bringupEvents5 : List Event := [.line .sync false, .delay .startLow, .line .sync true]

/-- … and the START command and its hold. -/
def bringupEvents6 (c : Config) : List Event := writeEvents [c.cmdStart] ++ [.delay .interCmd]

/-- The whole list of R138. -/
def bringupEvents (c : Config) : List Event :=
  bringupEvents1 ++ bringupEvents2 c ++ bringupEvents3 c ++ bringupEvents4 c ++ bringupEvents5 ++ bringupEvents6 c

/-- What BRINGUP emits when its k-th bus call, counted from 0, is the first that fails (R216). -/
def bringupFaultEvents (c : Config) : Nat → List Event
  | 0 => bringupEvents1 ++ writeFaultEvents
  | 1 => bringupEvents1 ++ bringupEvents2 c ++ writeFaultEvents
  | 2 => bringupEvents1 ++ bringupEvents2 c ++ bringupEvents3 c ++ writeFaultEvents
  | _ => bringupEvents1 ++ bringupEvents2 c ++ bringupEvents3 c ++ bringupEvents4 c ++ bringupEvents5 ++ writeFaultEvents

/-- The register part of a BRINGUP's end state: the three data registers at their defaults and the phase (R137, R216). -/
def bringupRegisters (p : Phase) (s : State) : State :=
  linesHigh { s with
    chan := s.cfg.defaultChannel
    vref := s.cfg.defaultVref
    refmode := .internal
    phase := p }

/-! ## Legal states between operations -/

/-- What holds between operations of the block: `CHAN` is a legal channel (R21), `REFMODE` is INTERNAL exactly when `VREF`
is 2.5 V (R23), `PHASE` is Unpowered or Ready (R25), no operation runs (R26), the three lines are high (R27, R217). -/
structure RegistersLegal (s : State) : Prop where
  chan_le : s.chan.toNat ≤ s.cfg.chanMax.toNat
  refmode_iff : s.refmode = .internal ↔ s.vref = internalVolts
  phase_settled : s.phase = .unpowered ∨ s.phase = .ready
  idle : s.busy = false
  at_start : s.position = 0
  none_answered : s.slot = 0
  cs_high : s.cs = true
  rst_high : s.rst = true
  sync_high : s.sync = true

/-- The parameters are well formed (R9) and those M1 gives a value have it (R8). -/
def ConfigLegal (c : Config) : Prop := c.wellFormed = true ∧ c.hasM1Values = true

/-! ## Traces -/

/-- The levels of the three output lines. -/
structure LineLevels where
  cs : Bool
  rst : Bool
  sync : Bool
  deriving DecidableEq, Repr

/-- All lines idle high: the levels at block reset (R240). -/
def idleLevels : LineLevels := ⟨true, true, true⟩

/-- The levels after an event: only a `Line` event moves one (R27). -/
def levelsAfter (l : LineLevels) : Event → LineLevels
  | .line .cs v => { l with cs := v }
  | .line .rst v => { l with rst := v }
  | .line .sync v => { l with sync := v }
  | .delay _ => l
  | .busWrite _ => l
  | .busXchg _ _ => l
  | .busFault _ => l
  | .drdySample _ => l

/-- The levels after a list of events. -/
def levelsAfterAll (l : LineLevels) : List Event → LineLevels
  | [] => l
  | e :: es => levelsAfterAll (levelsAfter l e) es

/-- Which events may happen at which levels: bus calls only with `CS` low and `RST` and `SYNC` high (R56, R217), delays
and pulses only with `CS` high, the data-ready sample only with all lines high (R27, R138, R165). -/
def eventAllowed (l : LineLevels) : Event → Bool
  | .line .cs _ => l.rst && l.sync
  | .line .rst _ => l.cs && l.sync
  | .line .sync _ => l.cs && l.rst
  | .delay _ => l.cs
  | .busWrite _ => !l.cs && l.rst && l.sync
  | .busXchg _ _ => !l.cs && l.rst && l.sync
  | .busFault _ => !l.cs && l.rst && l.sync
  | .drdySample _ => l.cs && l.rst && l.sync

/-- Every event of a list is allowed at the levels it meets. -/
def disciplined (l : LineLevels) : List Event → Bool
  | [] => true
  | e :: es => eventAllowed l e && disciplined (levelsAfter l e) es

/-- The trace keeps the discipline from idle lines on, and the line registers hold the levels it last drove (R27). -/
structure LinesFollowTrace (s : State) : Prop where
  kept : disciplined idleLevels s.trace = true
  levels : levelsAfterAll idleLevels s.trace = ⟨s.cs, s.rst, s.sync⟩

/-- What may stand between `Line(CS, 0)` and `Line(CS, 1)`: one of the four formats (R50, R84), or one of them cut short by
the bus fault that ended its operation (R216). -/
def isFrameBody (c : Config) : List Event → Bool
  | [.busWrite [_]] => true
  | [.busWrite [_, count, _]] => count == 0x00
  | [.busXchg out answer] => out == dummyBytes c && answer.length == 3
  | [.busWrite [b], .busXchg out answer] => b == c.cmdRdata && out == dummyBytes c && answer.length == 3
  | [.busFault _] => true
  | [.busWrite [b], .busFault .exchange] => b == c.cmdRdata
  | _ => false

/-- A trace splits into closed frames, each of a legal form, and events outside frames that are no bus call (R50, R56).
The second argument is the part of an open frame seen so far. -/
def framesLegal (c : Config) : Option (List Event) → List Event → Bool
  | none, [] => true
  | some _, [] => false
  | none, .line .cs false :: es => framesLegal c (some []) es
  | none, .line .cs true :: es => framesLegal c none es
  | none, .line .rst _ :: es => framesLegal c none es
  | none, .line .sync _ :: es => framesLegal c none es
  | none, .delay _ :: es => framesLegal c none es
  | none, .drdySample _ :: es => framesLegal c none es
  | none, .busWrite _ :: _ => false
  | none, .busXchg _ _ :: _ => false
  | none, .busFault _ :: _ => false
  | some body, .line .cs true :: es => isFrameBody c body && framesLegal c none es
  | some _, .line .cs false :: _ => false
  | some _, .line .rst _ :: _ => false
  | some _, .line .sync _ :: _ => false
  | some _, .delay _ :: _ => false
  | some _, .drdySample _ :: _ => false
  | some body, .busWrite bs :: es => framesLegal c (some (body ++ [.busWrite bs])) es
  | some body, .busXchg out answer :: es => framesLegal c (some (body ++ [.busXchg out answer])) es
  | some body, .busFault call :: es => framesLegal c (some (body ++ [.busFault call])) es

/-- The bits of `arg` an operation uses (R82): what is zero here is ignored. -/
def usedArgBits (op : BitVec 4) : BitVec 32 :=
  match op.toNat with
  | 1 => 0x00001FFF
  | 2 => 0x000000FF
  | 3 => 0xFFFFFFFF
  | 4 => 0xFFFFFFFF
  | 8 => 0x00000001
  | 9 => 0x00000001
  | _ => 0x00000000

/-- How many of the first `k` requests of the run have no result yet (R247). -/
def unansweredBefore (s : State) (k : Nat) : Nat := (List.range k).countP fun j => (resultOf s j).isNone

/-- No transport call among the next `n` questions fails. -/
def noFault (s : State) (n : Nat) : Prop := ∀ k, k < n → (answer s k).busFault = false

end Sys2Proof.Machine
end

