-- ==== Sys2Proof/Certificates/Slice0/Obligations.lean ====
section
/-! DEFINITION. The statements for the provers, from the numbered rules of `spec/`. Each is about every state, so about every
parameter set and every behaviour of the environment: `answer s k` is what the environment answers at the k-th question
from `s` on, and nothing constrains it but the hypotheses written. -/

open Sys2Proof Sys2Proof.Machine

/-! ## Encodings -/

/-- A few words and frames, written out from the encodings of R81, R82 and R85 to R89, decode to what they stand for. The
frames rest on the default bytes (log 5); that the words of `REG_INPMUX` go to WREG_INPMUX is log 13. -/
def Obligations.WrittenWordsDecode : Prop :=
  decodeRequest 0x10000025C = .encodeWrite 0x02 0x5C
    ∧ decodeRequest 0x1FFFFE25C = .encodeWrite 0x02 0x5C
    ∧ decodeRequest 0x3FFFFFFFF = .setChannel (-1)
    ∧ decodeRequest 0x400028000 = .setReference 0x00028000
    ∧ decodeRequest 0x8FFFFFFFE = .readInt .freewheel
    ∧ decodeRequest 0x900000001 = .readVolt .rdata
    ∧ decodeRequest 0xF12345678 = .reservedCF 3
    ∧ decodeFrame Config.default [0x06] = .ok .cmdReset
    ∧ decodeFrame Config.default [0x42, 0x00, 0x5C] = .ok (.wregInpmux 5 0xC)
    ∧ decodeFrame Config.default [0x51, 0x00, 0xFF] = .ok (.wreg 0x11 0xFF)
    ∧ decodeFrame Config.default [0x00, 0x00, 0x00] = .ok .rd3
    ∧ decodeFrame Config.default [0x12, 0x00, 0x00, 0x00] = .ok .rdata4

/-- Decoding the encoding of a host operation gives it back, with every operand. -/
def Obligations.HostRequestsRoundTrip : Prop :=
  ∀ (c : Config) (i : Instr), i.isHost = true → decode c (encode c i) = .ok i

/-- Decoding the frame of a well-formed wire row gives it back, under every well-formed parameter set that tells the
frames apart. -/
def Obligations.WireFramesRoundTrip : Prop :=
  ∀ (c : Config) (i : Instr), c.wellFormed = true → c.framesDistinct = true → i.isHost = false → i.wellFormed c = true →
    decode c (encode c i) = .ok i

/-- R81 and R82: the ten operation codes, and each operand formed from its field of `arg`; since the fields are all that the
right sides name, the other bits have no effect. -/
def Obligations.OperandAssembly : Prop :=
  ∀ arg : BitVec 32,
    decodeRequest (0x0#4 ++ arg) = .bringup
      ∧ decodeRequest (0x1#4 ++ arg) = .encodeWrite (arg.extractLsb' 8 5) (arg.extractLsb' 0 8)
      ∧ decodeRequest (0x2#4 ++ arg) = .encodeCommand (arg.extractLsb' 0 8)
      ∧ decodeRequest (0x3#4 ++ arg) = .setChannel arg
      ∧ decodeRequest (0x4#4 ++ arg) = .setReference arg
      ∧ decodeRequest (0x5#4 ++ arg) = .isDataReady
      ∧ decodeRequest (0x6#4 ++ arg) = .readRaw
      ∧ decodeRequest (0x7#4 ++ arg) = .readRdata
      ∧ decodeRequest (0x8#4 ++ arg) = .readInt (if arg.getLsbD 0 then .rdata else .freewheel)
      ∧ decodeRequest (0x9#4 ++ arg) = .readVolt (if arg.getLsbD 0 then .rdata else .freewheel)

/-- R91, R92 item a: the reserved rows are exactly the words with `op` 0xA to 0xF. -/
def Obligations.ReservedCodesExactly : Prop :=
  ∀ w : RequestWord,
    (0xA ≤ (RequestWord.op w).toNat ↔ (∃ l, decodeRequest w = .reservedAB l) ∨ ∃ l, decodeRequest w = .reservedCF l)

/-- Encoding what a request word decodes to gives the word back with its ignored bits zero (R80, R82). -/
def Obligations.RequestWordsReencode : Prop :=
  ∀ (c : Config) (w : RequestWord),
    encode c (decodeRequest w)
      = .request (RequestWord.op w ++ (RequestWord.arg w &&& usedArgBits (RequestWord.op w)))

/-- R90: the input-multiplexer value as a formula, as fields, and as a number. -/
def Obligations.InputMuxValue : Prop :=
  ∀ (c : Config) (ch : BitVec 4), ch ≤ 11 →
    inpmux c ch = (ch.setWidth 8 <<< 4) ||| c.negInputSelect.setWidth 8
      ∧ (inpmux c ch).extractLsb' 4 4 = ch
      ∧ (inpmux c ch).extractLsb' 0 4 = c.negInputSelect
      ∧ (inpmux c ch).toNat = 16 * ch.toNat + c.negInputSelect.toNat

/-- R116: the encoder reads no state but `CMD_WREG`, its frame gives both operands back, its middle byte is zero, and it
cannot fail. -/
def Obligations.EncoderProperties : Prop :=
  (∀ (s s' t t' : State) (r : RegAddr) (v : Byte), s.cfg.cmdWreg = s'.cfg.cmdWreg →
      exec (.encodeWrite r v) s = .next t → exec (.encodeWrite r v) s' = .next t' → t.resultPort = t'.resultPort)
    ∧ (∀ (s s' t t' : State) (b : Byte),
      exec (.encodeCommand b) s = .next t → exec (.encodeCommand b) s' = .next t' → t.resultPort = t'.resultPort)
    ∧ (∀ (c : Config) (r : RegAddr) (v : Byte), c.wellFormed = true →
      ∃ b0 : Byte, encodeWriteBytes c r v = [b0, 0x00, v] ∧ b0.extractLsb' 0 5 = r)
    ∧ (∀ (c : Config) (r r' : RegAddr) (v v' : Byte), c.wellFormed = true →
      encodeWriteBytes c r v = encodeWriteBytes c r' v' → r = r' ∧ v = v')
    ∧ (∀ (s : State) (r : RegAddr) (v b : Byte), ∃ t u d e,
      exec (.encodeWrite r v) s = .next t ∧ t.resultPort = some ⟨.ok, d⟩
        ∧ exec (.encodeCommand b) s = .next u ∧ u.resultPort = some ⟨.ok, e⟩)

/-! ## The converter -/

/-- R181: pad-then-shift is sign extension, on all samples. -/
def Obligations.SampleToIntSignExtends : Prop := ∀ r : Sample, sampleToInt r = r.signExtend 32

/-- R182: range, fixed points as numbers and as patterns, injectivity, equal upper bits. -/
def Obligations.SampleToIntRange : Prop :=
  (∀ r : Sample, -8388608 ≤ (sampleToInt r).toInt ∧ (sampleToInt r).toInt ≤ 8388607)
    ∧ sampleToInt (sampleOf 0x80 0x00 0x00) = 0xFF800000 ∧ (sampleToInt (sampleOf 0x80 0x00 0x00)).toInt = -8388608
    ∧ sampleToInt (sampleOf 0x7F 0xFF 0xFF) = 0x007FFFFF ∧ (sampleToInt (sampleOf 0x7F 0xFF 0xFF)).toInt = 8388607
    ∧ sampleToInt (sampleOf 0x00 0x00 0x00) = 0 ∧ (sampleToInt (sampleOf 0x00 0x00 0x00)).toInt = 0
    ∧ (∀ r r' : Sample, sampleToInt r = sampleToInt r' → r = r')
    ∧ (∀ (r : Sample) (k : Nat), 23 ≤ k → k ≤ 31 → (sampleToInt r).getLsbD k = (sampleToInt r).getLsbD 31)

/-- R186 (and the product of R183): the 56 bits hold the exact integer product; its bounds, its zeros, its sign, and
oddness away from the minimum. -/
def Obligations.VoltageExact : Prop :=
  (∀ (i : BitVec 32) (v : Volts), -2 ^ 23 ≤ i.toInt → i.toInt ≤ 2 ^ 23 - 1 →
      (intToVolt i v).toInt = i.toInt * (v.toNat : Int)
        ∧ -2 ^ 23 * (2 ^ 32 - 1) ≤ (intToVolt i v).toInt
        ∧ (intToVolt i v).toInt ≤ (2 ^ 23 - 1) * (2 ^ 32 - 1)
        ∧ (v ≠ 0 → ((intToVolt i v).toInt < 0 ↔ i.toInt < 0) ∧ (0 < (intToVolt i v).toInt ↔ 0 < i.toInt)))
    ∧ (∀ v : Volts, intToVolt 0 v = 0)
    ∧ (∀ i : BitVec 32, intToVolt i 0 = 0)
    ∧ (∀ (i : BitVec 32) (v : Volts), -2 ^ 23 < i.toInt → i.toInt < 2 ^ 23 →
      (intToVolt (-i) v).toInt = -(intToVolt i v).toInt)

/-- R185: read as SQ17.39, the minimum sample is minus the reference and the maximum one step short of it. -/
def Obligations.FullScaleIsReference : Prop :=
  ∀ v : Volts,
    ((intToVolt (sampleToInt 0x800000) v).toInt : ℚ) / 2 ^ 39 = -((v.toNat : ℚ) / 2 ^ 16)
      ∧ ((intToVolt (sampleToInt 0x7FFFFF) v).toInt : ℚ) / 2 ^ 39 = (v.toNat : ℚ) / 2 ^ 16 * ((2 ^ 23 - 1) / 2 ^ 23)

/-! ## The host operations: encoding, result, events, and everything else unchanged -/

/-- R110: ENCODE_WRITE, in any phase, gives the frame in wire order and changes nothing. -/
def Obligations.EncodeWriteResult : Prop :=
  (∀ arg : BitVec 32, decodeRequest (0x1#4 ++ arg) = .encodeWrite (arg.extractLsb' 8 5) (arg.extractLsb' 0 8))
    ∧ ∀ (r : RegAddr) (v : Byte) (s : State),
      readyOnly (.encodeWrite r v) = false
        ∧ exec (.encodeWrite r v) s
          = .next (afterOperation [] 0
              ⟨.ok, ((s.cfg.cmdWreg ||| r.setWidth 8) ++ (0x00 : Byte) ++ v : BitVec 24).setWidth 56⟩ s)

/-- R111: ENCODE_COMMAND, in any phase, gives the byte and changes nothing. -/
def Obligations.EncodeCommandResult : Prop :=
  (∀ arg : BitVec 32, decodeRequest (0x2#4 ++ arg) = .encodeCommand (arg.extractLsb' 0 8))
    ∧ ∀ (b : Byte) (s : State),
      readyOnly (.encodeCommand b) = false
        ∧ exec (.encodeCommand b) s = .next (afterOperation [] 0 ⟨.ok, b.setWidth 56⟩ s)

/-- R138: a BRINGUP whose four bus calls do not fail emits the 24 events in order, ends in `Ready` with the defaults, and
changes nothing else. -/
def Obligations.BringupCompletes : Prop :=
  ∀ s : State, noFault s 4 →
    exec .bringup s = .next (bringupRegisters .ready (afterOperation (bringupEvents s.cfg) 4 ⟨.ok, 0⟩ s))
      ∧ (bringupEvents s.cfg).length = 24

/-- R130 with R216: a BRINGUP whose k-th bus call is the first that fails stops there with the frame closed, `Unpowered`, the
registers at their defaults, and changes nothing else. -/
def Obligations.BringupBusFault : Prop :=
  ∀ (s : State) (k : Nat), k < 4 → noFault s k → (answer s k).busFault = true →
    exec .bringup s
      = .next (bringupRegisters .unpowered (afterOperation (bringupFaultEvents s.cfg k) (k + 1) ⟨.busFault, 0⟩ s))

/-- R141: the phases a BRINGUP walks, in order along the sequence: without a fault each part runs from the state the part
before it left, in its own phase, and `Ready` comes last; with the k-th bus call the first that fails, the sequence ends in
the phase of the part that makes it, and a part leaves its phase whether or not its call fails. -/
def Obligations.BringupPhaseWalk : Prop :=
  ∀ s : State,
    (noFault s 4 → ∃ t1 t2 t3 t4 t5 : State,
        bringupHardReset (bringupDefaults s) = t1 ∧ t1.phase = .hardReset
          ∧ bringupSoftReset t1 = .done () t2 ∧ t2.phase = .softReset
          ∧ bringupConfiguring t2 = .done () t3 ∧ t3.phase = .configuring
          ∧ bringupHardStart t3 = t4 ∧ t4.phase = .hardStart
          ∧ bringupSoftStart t4 = .done () t5 ∧ t5.phase = .softStart
          ∧ bringupSequence s = .done 0 (setPhase .ready t5))
      ∧ (∀ k, k < 4 → noFault s k → (answer s k).busFault = true → ∃ t : State,
        bringupSequence s = .raised .busFault t
          ∧ t.phase = (if k = 0 then .softReset else if k = 3 then .softStart else .configuring))
      ∧ (bringupHardReset s).phase = .hardReset
      ∧ (bringupSoftReset s).state.phase = .softReset
      ∧ (bringupConfiguring s).state.phase = .configuring
      ∧ (bringupHardStart s).phase = .hardStart
      ∧ (bringupSoftStart s).state.phase = .softStart
      ∧ ∀ (d : Data) (t : State), bringupSequence s = .done d t → t.phase = .ready

/-- R150: SET_CHANNEL. In range and no fault: the write, then `CHAN`. Out of range: InvalidChannel and no event. Bus fault:
the frame closed and `CHAN` kept. Nothing else changes. -/
def Obligations.SetChannelOutcome : Prop :=
  (∀ arg : BitVec 32, decodeRequest (0x3#4 ++ arg) = .setChannel arg)
    ∧ ∀ (ch : BitVec 32) (s : State),
      (0 ≤ ch.toInt → ch.toInt ≤ s.cfg.chanMax.toNat → (answer s 0).busFault = false →
        exec (.setChannel ch) s
            = .next (setChan (ch.setWidth 4) (csHigh (afterOperation
                (writeEvents [s.cfg.cmdWreg ||| s.cfg.regInpmux.setWidth 8, 0x00,
                  ((ch.setWidth 4).setWidth 8 <<< 4) ||| s.cfg.negInputSelect.setWidth 8]) 1 ⟨.ok, 0⟩ s)))
          ∧ ((ch.setWidth 4).toNat : Int) = ch.toInt)
      ∧ (ch.toInt < 0 ∨ (s.cfg.chanMax.toNat : Int) < ch.toInt →
        exec (.setChannel ch) s = .next (afterOperation [] 0 ⟨.invalidChannel, 0⟩ s))
      ∧ (0 ≤ ch.toInt → ch.toInt ≤ s.cfg.chanMax.toNat → (answer s 0).busFault = true →
        exec (.setChannel ch) s = .next (csHigh (afterOperation writeFaultEvents 1 ⟨.busFault, 0⟩ s)))

/-- R151: with `CHAN_MAX` 11, the operands rejected are exactly those above 11 read as unsigned, and they make no event. -/
def Obligations.RejectedChannelsExactly : Prop :=
  ∀ (ch : BitVec 32) (s t : State), s.cfg.chanMax = 11 → exec (.setChannel ch) s = .next t →
    (t.resultPort = some ⟨.invalidChannel, 0⟩ ↔ 11 < ch.toNat) ∧ (11 < ch.toNat → t.trace = s.trace ∧ t.asked = s.asked)

/-- R153: SET_CHANNEL sends its write whatever `CHAN` holds, and twice in a row sends the same frame twice. -/
def Obligations.SetChannelNoSuppression : Prop :=
  ∀ (ch : BitVec 32) (s t u : State), 0 ≤ ch.toInt → ch.toInt ≤ s.cfg.chanMax.toNat → noFault s 2 →
    exec (.setChannel ch) s = .next t → exec (.setChannel ch) t = .next u →
    (∃ frame, t.trace = s.trace ++ writeEvents frame ∧ u.trace = t.trace ++ writeEvents frame)
      ∧ ∀ v : BitVec 4, exec (.setChannel ch) (setChan v s) = .next t

/-- R200: SET_REFERENCE. The pattern by equality with 0x0002_8000, then `VREF` and `REFMODE`; on a bus fault both are kept.
Nothing else changes. -/
def Obligations.SetReferenceOutcome : Prop :=
  (∀ arg : BitVec 32, decodeRequest (0x4#4 ++ arg) = .setReference arg)
    ∧ ∀ (v : Volts) (s : State),
      (v = 0x00028000 → (answer s 0).busFault = false →
        exec (.setReference v) s
          = .next (setRef v .internal (csHigh (afterOperation
              (writeEvents [s.cfg.cmdWreg ||| s.cfg.regRef.setWidth 8, 0x00, s.cfg.refInternalPattern]) 1 ⟨.ok, 0⟩ s))))
      ∧ (v ≠ 0x00028000 → (answer s 0).busFault = false →
        exec (.setReference v) s
          = .next (setRef v .external (csHigh (afterOperation
              (writeEvents [s.cfg.cmdWreg ||| s.cfg.regRef.setWidth 8, 0x00, s.cfg.refExternalPattern]) 1 ⟨.ok, 0⟩ s))))
      ∧ ((answer s 0).busFault = true →
        exec (.setReference v) s = .next (csHigh (afterOperation writeFaultEvents 1 ⟨.busFault, 0⟩ s)))

/-- R204: SET_REFERENCE sends its write whatever `VREF` and `REFMODE` hold, and reads neither. -/
def Obligations.SetReferenceNoSuppression : Prop :=
  ∀ (v w : Volts) (m : RefMode) (s t : State), (answer s 0).busFault = false → exec (.setReference v) s = .next t →
    (∃ frame, t.trace = s.trace ++ writeEvents frame) ∧ exec (.setReference v) (setRef w m s) = .next t

/-- R160: IS_DATA_READY samples the active-low line once and answers 1 when it is asserted. -/
def Obligations.IsDataReadyOutcome : Prop :=
  (∀ arg : BitVec 32, decodeRequest (0x5#4 ++ arg) = .isDataReady)
    ∧ ∀ s : State, s.cfg.drdyActiveLow = true →
      exec .isDataReady s
        = .next (afterOperation [.drdySample (!(answer s 0).drdyPin)] 1
            ⟨.ok, if (answer s 0).drdyPin = false then 1 else 0⟩ s)

/-- R162: READ_RAW. -/
def Obligations.ReadRawOutcome : Prop :=
  (∀ arg : BitVec 32, decodeRequest (0x6#4 ++ arg) = .readRaw)
    ∧ ∀ s : State,
      ((answer s 0).busFault = false →
        exec .readRaw s
          = .next (csHigh (afterOperation (freewheelEvents s.cfg (answer s 0)) 1
              ⟨.ok, ((answer s 0).m0 ++ (answer s 0).m1 ++ (answer s 0).m2 : BitVec 24).setWidth 56⟩ s)))
      ∧ ((answer s 0).busFault = true →
        exec .readRaw s = .next (csHigh (afterOperation freewheelFaultEvents 1 ⟨.busFault, 0⟩ s)))

/-- R164: READ_RDATA, on an active-low line: not ready; ready and no fault; a fault of the write; a fault of the exchange. -/
def Obligations.ReadRdataOutcome : Prop :=
  (∀ arg : BitVec 32, decodeRequest (0x7#4 ++ arg) = .readRdata)
    ∧ ∀ s : State, s.cfg.drdyActiveLow = true →
      ((answer s 0).drdyPin = true →
        exec .readRdata s = .next (afterOperation [.drdySample false] 1 ⟨.dataNotReady, 0⟩ s))
      ∧ ((answer s 0).drdyPin = false → (answer s 1).busFault = false → (answer s 2).busFault = false →
        exec .readRdata s
          = .next (csHigh (afterOperation (.drdySample true :: rdataEvents s.cfg (answer s 2)) 3
              ⟨.ok, ((answer s 2).m0 ++ (answer s 2).m1 ++ (answer s 2).m2 : BitVec 24).setWidth 56⟩ s)))
      ∧ ((answer s 0).drdyPin = false → (answer s 1).busFault = true →
        exec .readRdata s
          = .next (csHigh (afterOperation (.drdySample true :: writeFaultEvents) 2 ⟨.busFault, 0⟩ s)))
      ∧ ((answer s 0).drdyPin = false → (answer s 1).busFault = false → (answer s 2).busFault = true →
        exec .readRdata s
          = .next (csHigh (afterOperation (.drdySample true :: rdataFaultEvents s.cfg) 3 ⟨.busFault, 0⟩ s)))

/-- R184: READ_INT, on each path: the sample, sign-extended to 56 bits; DataNotReady on the RDATA path only; bus faults. -/
def Obligations.ReadIntOutcome : Prop :=
  (∀ arg : BitVec 32, decodeRequest (0x8#4 ++ arg) = .readInt (if arg.getLsbD 0 then .rdata else .freewheel))
    ∧ ∀ s : State,
      ((answer s 0).busFault = false →
        exec (.readInt .freewheel) s
          = .next (csHigh (afterOperation (freewheelEvents s.cfg (answer s 0)) 1
              ⟨.ok, ((answer s 0).m0 ++ (answer s 0).m1 ++ (answer s 0).m2 : BitVec 24).signExtend 56⟩ s)))
      ∧ ((answer s 0).busFault = true →
        exec (.readInt .freewheel) s = .next (csHigh (afterOperation freewheelFaultEvents 1 ⟨.busFault, 0⟩ s)))
      ∧ (s.cfg.drdyActiveLow = true → (answer s 0).drdyPin = true →
        exec (.readInt .rdata) s = .next (afterOperation [.drdySample false] 1 ⟨.dataNotReady, 0⟩ s))
      ∧ (s.cfg.drdyActiveLow = true → (answer s 0).drdyPin = false →
        (answer s 1).busFault = false → (answer s 2).busFault = false →
        exec (.readInt .rdata) s
          = .next (csHigh (afterOperation (.drdySample true :: rdataEvents s.cfg (answer s 2)) 3
              ⟨.ok, ((answer s 2).m0 ++ (answer s 2).m1 ++ (answer s 2).m2 : BitVec 24).signExtend 56⟩ s)))
      ∧ (s.cfg.drdyActiveLow = true → (answer s 0).drdyPin = false → (answer s 1).busFault = true →
        exec (.readInt .rdata) s
          = .next (csHigh (afterOperation (.drdySample true :: writeFaultEvents) 2 ⟨.busFault, 0⟩ s)))
      ∧ (s.cfg.drdyActiveLow = true → (answer s 0).drdyPin = false →
        (answer s 1).busFault = false → (answer s 2).busFault = true →
        exec (.readInt .rdata) s
          = .next (csHigh (afterOperation (.drdySample true :: rdataFaultEvents s.cfg) 3 ⟨.busFault, 0⟩ s)))

/-- R188: READ_VOLT, on each path: the signed sample times `VREF`, exact; DataNotReady on the RDATA path only; bus faults. -/
def Obligations.ReadVoltOutcome : Prop :=
  (∀ arg : BitVec 32, decodeRequest (0x9#4 ++ arg) = .readVolt (if arg.getLsbD 0 then .rdata else .freewheel))
    ∧ ∀ s : State,
      ((answer s 0).busFault = false →
        ∃ d : Data, d.toInt = ((answer s 0).m0 ++ (answer s 0).m1 ++ (answer s 0).m2 : BitVec 24).toInt * s.vref.toNat
          ∧ exec (.readVolt .freewheel) s
            = .next (csHigh (afterOperation (freewheelEvents s.cfg (answer s 0)) 1 ⟨.ok, d⟩ s)))
      ∧ ((answer s 0).busFault = true →
        exec (.readVolt .freewheel) s = .next (csHigh (afterOperation freewheelFaultEvents 1 ⟨.busFault, 0⟩ s)))
      ∧ (s.cfg.drdyActiveLow = true → (answer s 0).drdyPin = true →
        exec (.readVolt .rdata) s = .next (afterOperation [.drdySample false] 1 ⟨.dataNotReady, 0⟩ s))
      ∧ (s.cfg.drdyActiveLow = true → (answer s 0).drdyPin = false →
        (answer s 1).busFault = false → (answer s 2).busFault = false →
        ∃ d : Data, d.toInt = ((answer s 2).m0 ++ (answer s 2).m1 ++ (answer s 2).m2 : BitVec 24).toInt * s.vref.toNat
          ∧ exec (.readVolt .rdata) s
            = .next (csHigh (afterOperation (.drdySample true :: rdataEvents s.cfg (answer s 2)) 3 ⟨.ok, d⟩ s)))
      ∧ (s.cfg.drdyActiveLow = true → (answer s 0).drdyPin = false → (answer s 1).busFault = true →
        exec (.readVolt .rdata) s
          = .next (csHigh (afterOperation (.drdySample true :: writeFaultEvents) 2 ⟨.busFault, 0⟩ s)))
      ∧ (s.cfg.drdyActiveLow = true → (answer s 0).drdyPin = false →
        (answer s 1).busFault = false → (answer s 2).busFault = true →
        exec (.readVolt .rdata) s
          = .next (csHigh (afterOperation (.drdySample true :: rdataFaultEvents s.cfg) 3 ⟨.busFault, 0⟩ s)))

/-- R214: a reserved code is accepted by an idle block in any phase and ends at once with IllegalOp, no event and no state
change. -/
def Obligations.ReservedCodesEndIllegal : Prop :=
  ∀ (s : State) (w : RequestWord), 0xA ≤ (RequestWord.op w).toNat →
    (s.busy = false → accepts s (.request w) = true)
      ∧ exec (decodeRequest w) s = .next (afterOperation [] 0 ⟨.illegalOp, 0⟩ s)

/-! ## The wire rows (log 11: presented on their own, by extension) -/

/-- R85, R115: each CMD1 row sends its code in one frame and changes nothing but `CS`; on a fault the frame is closed. -/
def Obligations.CommandFramesSend : Prop :=
  ∀ (s : State) (i : Instr) (code : Byte),
    (i, code) ∈ [(Instr.cmdNop, s.cfg.cmdNop), (.cmdWakeup, s.cfg.cmdWakeup), (.cmdPowerdown, s.cfg.cmdPowerdown),
      (.cmdReset, s.cfg.cmdReset), (.cmdStart, s.cfg.cmdStart), (.cmdStop, s.cfg.cmdStop),
      (.cmdSyocal, s.cfg.cmdSyocal), (.cmdSygcal, s.cfg.cmdSygcal), (.cmdSfocal, s.cfg.cmdSfocal),
      (.cmdRreg, s.cfg.cmdRreg)] →
    ((answer s 0).busFault = false → exec i s = .next (csHigh (afterOperation (writeEvents [code]) 1 ⟨.ok, 0⟩ s)))
      ∧ ((answer s 0).busFault = true →
        exec i s = .next (csHigh (afterOperation writeFaultEvents 1 ⟨.busFault, 0⟩ s)))

/-- R86, R114: each WREG3 row sends its three bytes in one frame and changes nothing but `CS`; on a fault the frame is
closed. -/
def Obligations.RegisterFramesSend : Prop :=
  ∀ (s : State) (r : RegAddr) (v p : Byte) (ch neg : BitVec 4),
    ((answer s 0).busFault = false →
      exec (.wreg r v) s = .next (csHigh (afterOperation
          (writeEvents [s.cfg.cmdWreg ||| r.setWidth 8, 0x00, v]) 1 ⟨.ok, 0⟩ s))
        ∧ exec (.wregInpmux ch neg) s = .next (csHigh (afterOperation
          (writeEvents [s.cfg.cmdWreg ||| s.cfg.regInpmux.setWidth 8, 0x00, ch ++ neg]) 1 ⟨.ok, 0⟩ s))
        ∧ exec (.wregRef p) s = .next (csHigh (afterOperation
          (writeEvents [s.cfg.cmdWreg ||| s.cfg.regRef.setWidth 8, 0x00, p]) 1 ⟨.ok, 0⟩ s)))
      ∧ ((answer s 0).busFault = true →
        exec (.wreg r v) s = .next (csHigh (afterOperation writeFaultEvents 1 ⟨.busFault, 0⟩ s))
          ∧ exec (.wregInpmux ch neg) s = .next (csHigh (afterOperation writeFaultEvents 1 ⟨.busFault, 0⟩ s))
          ∧ exec (.wregRef p) s = .next (csHigh (afterOperation writeFaultEvents 1 ⟨.busFault, 0⟩ s)))

/-- R88, R89: RD3 and RDATA4 send their frame, capture three bytes, and change nothing but `CS`; on a fault the frame is
closed. -/
def Obligations.SampleFramesRead : Prop :=
  ∀ s : State,
    ((answer s 0).busFault = false →
      exec .rd3 s = .next (csHigh (afterOperation (freewheelEvents s.cfg (answer s 0)) 1
        ⟨.ok, ((answer s 0).m0 ++ (answer s 0).m1 ++ (answer s 0).m2 : BitVec 24).setWidth 56⟩ s)))
      ∧ ((answer s 0).busFault = true →
        exec .rd3 s = .next (csHigh (afterOperation freewheelFaultEvents 1 ⟨.busFault, 0⟩ s))
          ∧ exec .rdata4 s = .next (csHigh (afterOperation writeFaultEvents 1 ⟨.busFault, 0⟩ s)))
      ∧ ((answer s 0).busFault = false → (answer s 1).busFault = false →
        exec .rdata4 s = .next (csHigh (afterOperation (rdataEvents s.cfg (answer s 1)) 2
          ⟨.ok, ((answer s 1).m0 ++ (answer s 1).m1 ++ (answer s 1).m2 : BitVec 24).setWidth 56⟩ s)))
      ∧ ((answer s 0).busFault = false → (answer s 1).busFault = true →
        exec .rdata4 s = .next (csHigh (afterOperation (rdataFaultEvents s.cfg) 2 ⟨.busFault, 0⟩ s)))

/-! ## Errors -/

/-- R215: the table of statuses of the host operations, both ways: what it allows an operation happens in some state
(SET_CHANNEL: for some channel), and nothing else does in any. -/
def Obligations.StatusTable : Prop :=
  ∀ (i : Instr) (x : Status), i.isHost = true →
    (mayEndWith i x = true ↔ ∃ (j : Instr) (s t : State) (d : Data),
      (j = i ∨ ∃ ch ch', i = .setChannel ch ∧ j = .setChannel ch') ∧ exec j s = .next t ∧ t.resultPort = some ⟨x, d⟩)

/-- R30, R210: `data` is zero whenever `status` is not OK, for the wire rows too (log 11). -/
def Obligations.ErrorDataZero : Prop :=
  ∀ (i : Instr) (s t : State) (r : Result), exec i s = .next t → t.resultPort = some r → r.status ≠ .ok → r.data = 0

/-- R211, R212, R214, R216: InvalidChannel and IllegalOp leave everything but the result as it was; DataNotReady leaves
everything but the result and the one sample of the line. -/
def Obligations.ErrorsArePrecise : Prop :=
  ∀ (i : Instr) (s t : State) (r : Result), exec i s = .next t → t.resultPort = some r →
    (r.status = .invalidChannel ∨ r.status = .illegalOp → t = afterOperation [] 0 ⟨r.status, 0⟩ s)
      ∧ (r.status = .dataNotReady → t = afterOperation [.drdySample false] 1 ⟨.dataNotReady, 0⟩ s)

/-- R217: from lines `RST` and `SYNC` high, as they are between operations, a BusFault leaves all three lines high, whatever
the operation, the wire rows among them (log 11). -/
def Obligations.BusFaultLeavesLinesHigh : Prop :=
  ∀ (i : Instr) (s t : State) (d : Data), s.rst = true → s.sync = true →
    exec i s = .next t → t.resultPort = some ⟨.busFault, d⟩ → t.cs = true ∧ t.rst = true ∧ t.sync = true

/-- Every operation ends, in every state and environment: a next state with one result more, at its place in request order,
not busy, nothing taken from the request port and the parameters kept (R13, R30, R247, R260). That the wire rows end so is the
model's choice (log 11); the list of results and the position are its form (log 1, 28). -/
def Obligations.EveryOperationEnds : Prop :=
  ∀ (i : Instr) (s : State), ∃ (t : State) (r : Result), exec i s = .next t
    ∧ t.resultPort = some r ∧ t.results = fillSlot r s.slot s.results
    ∧ t.busy = false ∧ t.position = 0 ∧ t.slot = 0 ∧ t.taking = s.taking ∧ t.pending = s.pending ∧ t.cfg = s.cfg

/-! ## Whole-machine rules -/

/-- R20, R25, R27: who writes what. `CHAN` only BRINGUP and SET_CHANNEL, `VREF` and `REFMODE` only BRINGUP and
SET_REFERENCE, `PHASE`, `RST` and `SYNC` only BRINGUP. -/
def Obligations.RegisterWriters : Prop :=
  ∀ (i : Instr) (s t : State), exec i s = .next t →
    (i ≠ .bringup → t.phase = s.phase ∧ t.rst = s.rst ∧ t.sync = s.sync)
      ∧ (i ≠ .bringup → (∀ ch, i ≠ .setChannel ch) → t.chan = s.chan)
      ∧ (i ≠ .bringup → (∀ v, i ≠ .setReference v) → t.vref = s.vref ∧ t.refmode = s.refmode)

/-- R13, R28, R37: what an operation emits and answers depends on the parameters, `VREF` and the environment alone: on no
earlier event, result, phase, line or register. -/
def Obligations.OutcomeDependsOnVrefAndEnvironment : Prop :=
  ∀ (i : Instr) (s s' t t' : State), s.cfg = s'.cfg → s.vref = s'.vref → s.env = s'.env → s.asked = s'.asked →
    exec i s = .next t → exec i s' = .next t' →
    t.resultPort = t'.resultPort ∧ ∃ events, t.trace = s.trace ++ events ∧ t'.trace = s'.trace ++ events

/-- R163: on the freewheel path the level of the data-ready pin at the exchange makes no difference at all; RD3 run on its own
is the model's choice (log 11). -/
def Obligations.FreewheelIgnoresDataReady : Prop :=
  ∀ (i : Instr) (s : State) (m : EnvMoment) (rest : List EnvMoment) (p : Bool),
    i = .readRaw ∨ i = .readInt .freewheel ∨ i = .readVolt .freewheel ∨ i = .rd3 → s.env = m :: rest →
    exec i { s with env := { m with drdyPin := p } :: rest } = exec i s

/-- Where both succeed on the same three bytes, READ_INT is the sign extension of what READ_RAW returns (R162, R181, R184). -/
def Obligations.ReadIntSignExtendsReadRaw : Prop :=
  ∀ (s t u : State) (a b : Data), exec .readRaw s = .next t → exec (.readInt .freewheel) s = .next u →
    t.resultPort = some ⟨.ok, a⟩ → u.resultPort = some ⟨.ok, b⟩ →
    a.extractLsb' 24 32 = 0 ∧ b = (a.extractLsb' 0 24).signExtend 56

/-- R65, R247: a step never takes back an event, nor the result of any request, and answers at most one request. -/
def Obligations.TraceOnlyGrows : Prop :=
  ∀ s t : State, step s = .next t →
    (∃ events, t.trace = s.trace ++ events)
      ∧ (t.results = s.results ∨ ∃ (k : Nat) (r : Result), resultOf s k = none ∧ resultOf t k = some r
        ∧ ∀ j, j ≠ k → resultOf t j = resultOf s j)
      ∧ s.asked ≤ t.asked

/-! ## The step and the request port -/

/-- A step runs the decoded instruction: the oldest presented request that is accepted is taken from the port, decoded and
run, in the state in which the host has taken the last result or not. That a held one before it does not bar it is the model's
choice (log 8). -/
def Obligations.StepRunsAcceptedRequest : Prop :=
  ∀ (s : State) (before after : List Code) (c : Code) (i : Instr), s.pending = before ++ c :: after →
    (∀ d ∈ before, accepts s d = false) → accepts s c = true → decode s.cfg c = .ok i →
    step s = exec i (acceptRequest before after (hostTakes s))

/-- R246: the table of acceptance, and that a request not accepted stays at the port; that a step with none accepted answers
the same state, but for the host's taking of the result, is the model's choice (log 9). -/
def Obligations.AcceptanceTable : Prop :=
  (∀ (s : State) (w : RequestWord),
      accepts s (.request w) = true ↔
        s.busy = false ∧ (s.phase = .ready ∨ RequestWord.op w = 0x0 ∨ RequestWord.op w = 0x1
          ∨ RequestWord.op w = 0x2 ∨ 0xA ≤ (RequestWord.op w).toNat))
    ∧ (∀ (s : State) (c : Code), c ∈ s.pending → accepts s c = false → ∀ t, step s = .next t → c ∈ t.pending)
    ∧ (∀ s : State, (∀ c ∈ s.pending, accepts s c = false) → step s = .next (hostTakes s))

/-- A request held in `Unpowered` runs right after a BRINGUP that ends with OK (R246; that the BRINGUP passes the held request
is the model's choice, log 8). -/
def Obligations.HeldRequestRunsAfterBringup : Prop :=
  ∀ (s : State) (w b : RequestWord), s.busy = false → s.phase = .unpowered → s.pending = [.request w, .request b] →
    readyOnly (decodeRequest w) = true → RequestWord.op b = 0x0 → noFault s 4 →
    ∃ t : State, step s = .next t ∧ t.phase = .ready ∧ t.pending = [.request w]
      ∧ step t = exec (decodeRequest w) (acceptRequest [] [] (hostTakes t))

/-- A directly presented frame of a length no format has stops the machine by name (R84; the stop is the model's choice,
log 14). -/
def Obligations.FrameOfNoFormatStops : Prop :=
  ∀ (s : State) (bytes : List Byte) (rest : List Code), s.busy = false → s.pending = .frame bytes :: rest →
    bytes.length ≠ 1 → bytes.length ≠ 3 → bytes.length ≠ 4 →
    step s = .fault (.unknownFrame (.noSuchLength bytes.length))

/-! ## Reset and the invariants -/

/-- R240: what block reset leaves, under every parameter set, and that it emits no event. -/
def Obligations.BlockResetValues : Prop :=
  ∀ c : Config,
    (State.resetWith c).phase = .unpowered ∧ (State.resetWith c).chan = c.defaultChannel
      ∧ (State.resetWith c).vref = c.defaultVref ∧ (State.resetWith c).refmode = .internal
      ∧ (State.resetWith c).cs = true ∧ (State.resetWith c).rst = true ∧ (State.resetWith c).sync = true
      ∧ (State.resetWith c).busy = false ∧ (State.resetWith c).resultPort = none ∧ (State.resetWith c).trace = []

/-- R241: after block reset the block is idle and waits; that a waiting step answers the same state is the model's choice
(log 9). -/
def Obligations.ResetBlockWaits : Prop := step State.reset = .next State.reset

/-- The default block meets the register invariant at reset (the invariant of R21, R23, R25, R27). -/
def Obligations.ResetIsLegal : Prop := ConfigLegal State.reset.cfg ∧ RegistersLegal State.reset

/-- Every step keeps the register invariant and the parameters: `CHAN` legal (R21), `REFMODE` INTERNAL exactly at 2.5 V (R23),
`PHASE` Unpowered or Ready (R25), idle (R26), lines high (R27). -/
def Obligations.StepKeepsRegistersLegal : Prop :=
  ∀ s t : State, ConfigLegal s.cfg → RegistersLegal s → step s = .next t → RegistersLegal t ∧ t.cfg = s.cfg

/-- At reset the trace is disciplined and made of legal frames. -/
def Obligations.ResetTraceLegal : Prop :=
  LinesFollowTrace State.reset ∧ framesLegal State.reset.cfg none State.reset.trace = true

/-- Every step keeps the line discipline: bus calls only with `CS` low and the other lines high, delays and pulses only with
`CS` high, and the line registers hold what the trace last drove (R27, R56, R217). -/
def Obligations.StepKeepsLineDiscipline : Prop :=
  ∀ s t : State, RegistersLegal s → LinesFollowTrace s → step s = .next t → LinesFollowTrace t

/-- Every step keeps the trace a sequence of closed frames, each of one of the four formats or cut short by a bus fault, with
no bus call outside a frame (R50, R56, R84). -/
def Obligations.StepKeepsFramesLegal : Prop :=
  ∀ s t : State, framesLegal s.cfg none s.trace = true → step s = .next t → framesLegal t.cfg none t.trace = true

/-! ## The result port and the end of a run -/

/-- R28: the status is not kept after the host takes the result, and nothing reads it while it is pending. Where the host takes
it and no request is accepted, the port is empty and nothing else has changed; and no operation depends on what is pending.
How the host's taking is written down is the model's choice (log 27). -/
def Obligations.ResultNotKeptOnceTaken : Prop :=
  (∀ (s : State) (later : List Bool), s.taking = true :: later → (∀ c ∈ s.pending, accepts s c = false) →
      step s = .next { s with resultPort := none, taking := later })
    ∧ (∀ (s : State) (later : List Bool), s.taking = false :: later → (∀ c ∈ s.pending, accepts s c = false) →
      step s = .next { s with taking := later })
    ∧ ∀ (i : Instr) (s : State) (p : Option Result), exec i { s with resultPort := p } = exec i s

/-- R247: the results stand in request order. When the step runs a request with some held before it, its result goes to the
first request of the run that has as many unanswered ones before it as are held, and every other request's result stays as it
was. -/
def Obligations.ResultsInRequestOrder : Prop :=
  ∀ (s t : State) (before after : List Code) (c : Code) (i : Instr), s.pending = before ++ c :: after →
    (∀ d ∈ before, accepts s d = false) → accepts s c = true → decode s.cfg c = .ok i → step s = .next t →
    ∃ (k : Nat) (r : Result), t.resultPort = some r ∧ resultOf t k = some r
      ∧ resultOf s k = none ∧ unansweredBefore s k = before.length
      ∧ ∀ j, j ≠ k → resultOf t j = resultOf s j

/-- R247, R246: a run has ended when nothing is presented or held and the block is idle; a stuck block has not ended. An idle
block that accepts nothing is one or the other, a step then leaves the observable outcome and the port as they are, and a
stuck block is not in `Ready` and accepts a BRINGUP presented behind what it holds (the last is the model's choice, log 8). That
the host has no more requests when none is presented is the model's choice (log 29). -/
def Obligations.RunEndedOrStuck : Prop :=
  (∀ s : State, runEnded s = true ↔ s.pending = [] ∧ s.busy = false)
    ∧ (∀ s : State, s.busy = false → (∀ c ∈ s.pending, accepts s c = false) →
      (runEnded s = true ∧ stuck s = false) ∨ (runEnded s = false ∧ stuck s = true))
    ∧ (∀ s t : State, runEnded s = true ∨ stuck s = true → step s = .next t →
      runOutcome t = runOutcome s ∧ t.pending = s.pending)
    ∧ ∀ (s : State) (b : RequestWord), stuck s = true → RequestWord.op b = 0x0 →
      s.phase ≠ .ready ∧ nextAccepted { s with pending := s.pending ++ [.request b] } = some (s.pending, .request b, [])
end

