-- ==== Sys2Proof/Laws/Codec.lean ====
section
/-! SUPPORT. The small lemmas of the decoder and the encoder, and that the default parameters are well formed. -/

namespace Sys2Proof

/-- The default parameters are well formed (R9), whatever the OPEN ones are. -/
theorem Config.default_wellFormed : Config.default.wellFormed = true := by
  have h : Config.openRefInternal ≠ Config.openRefInternal + BitVec.ofNat 8 (1 + Config.openRefOffset % 255) := by
    intro he
    have h1 : BitVec.ofNat 8 (1 + Config.openRefOffset % 255) = 0#8 := by
      have := congrArg (fun x => x - Config.openRefInternal) he
      simpa [BitVec.add_comm] using this.symm
    have h2 := congrArg BitVec.toNat h1
    simp only [BitVec.toNat_ofNat] at h2
    have : Config.openRefOffset % 255 < 255 := Nat.mod_lt _ (by decide)
    omega
  have ht : Config.openResetLow < Config.openResetLow + 1 + Config.openPostResetExcess := by omega
  simp [Config.wellFormed, Config.default, bne_iff_ne, h, ht]

/-- The default parameters have the values M1 gives (R8). -/
theorem Config.default_hasM1Values : Config.default.hasM1Values = true := rfl

/-- The default parameters tell the frames apart. -/
theorem Config.default_framesDistinct : Config.default.framesDistinct = true := by decide

@[simp] theorem decode_request (c : Config) (w : RequestWord) : decode c (.request w) = .ok (decodeRequest w) := rfl
@[simp] theorem decode_frame (c : Config) (bs : List Byte) : decode c (.frame bs) = decodeFrame c bs := rfl
@[simp] theorem decodeFrame_one (c : Config) (b : Byte) : decodeFrame c [b] = decodeCommand c b := rfl
@[simp] theorem decodeFrame_three (c : Config) (b0 b1 b2 : Byte) :
    decodeFrame c [b0, b1, b2] = decodeThree c b0 b1 b2 := rfl
@[simp] theorem decodeFrame_four (c : Config) (b0 b1 b2 b3 : Byte) :
    decodeFrame c [b0, b1, b2, b3] = decodeFour c b0 b1 b2 b3 := rfl

/-- The fields of a request word are the ones it was made of (R80). -/
@[simp] theorem op_append (o : BitVec 4) (a : BitVec 32) : RequestWord.op (o ++ a) = o := by
  apply BitVec.eq_of_toNat_eq
  have ha := a.isLt
  have ho := o.isLt
  simp only [RequestWord.op, BitVec.extractLsb'_toNat, BitVec.toNat_append, Nat.shiftRight_eq_div_pow]
  rw [← Nat.shiftLeft_add_eq_or_of_lt ha, Nat.shiftLeft_eq]
  omega

@[simp] theorem arg_append (o : BitVec 4) (a : BitVec 32) : RequestWord.arg (o ++ a) = a := by
  apply BitVec.eq_of_toNat_eq
  have ha := a.isLt
  have ho := o.isLt
  simp only [RequestWord.arg, BitVec.extractLsb'_toNat, BitVec.toNat_append, Nat.shiftRight_eq_div_pow]
  rw [← Nat.shiftLeft_add_eq_or_of_lt ha, Nat.shiftLeft_eq]
  omega

@[simp] theorem pathOfBit_bitOfPath (p : ReadPath) : pathOfBit (bitOfPath p) = p := by cases p <;> rfl

end Sys2Proof
end

