-- ==== Sys2Proof/Laws/State.lean ====
section
/-! SUPPORT. One lemma per field of State per update, all by `rfl`: what each update writes and what it leaves. -/

namespace Sys2Proof.Machine

variable (s : State)

/-! ### `emit` -/

@[simp] theorem emit_cfg (e : Event) : (emit e s).cfg = s.cfg := rfl
@[simp] theorem emit_chan (e : Event) : (emit e s).chan = s.chan := rfl
@[simp] theorem emit_vref (e : Event) : (emit e s).vref = s.vref := rfl
@[simp] theorem emit_refmode (e : Event) : (emit e s).refmode = s.refmode := rfl
@[simp] theorem emit_phase (e : Event) : (emit e s).phase = s.phase := rfl
@[simp] theorem emit_position (e : Event) : (emit e s).position = s.position + 1 := rfl
@[simp] theorem emit_busy (e : Event) : (emit e s).busy = s.busy := rfl
@[simp] theorem emit_cs (e : Event) : (emit e s).cs = s.cs := rfl
@[simp] theorem emit_rst (e : Event) : (emit e s).rst = s.rst := rfl
@[simp] theorem emit_sync (e : Event) : (emit e s).sync = s.sync := rfl
@[simp] theorem emit_pending (e : Event) : (emit e s).pending = s.pending := rfl
@[simp] theorem emit_resultPort (e : Event) : (emit e s).resultPort = s.resultPort := rfl
@[simp] theorem emit_results (e : Event) : (emit e s).results = s.results := rfl
@[simp] theorem emit_trace (e : Event) : (emit e s).trace = s.trace ++ [e] := rfl
@[simp] theorem emit_env (e : Event) : (emit e s).env = s.env := rfl
@[simp] theorem emit_asked (e : Event) : (emit e s).asked = s.asked := rfl
@[simp] theorem emit_slot (e : Event) : (emit e s).slot = s.slot := rfl
@[simp] theorem emit_taking (e : Event) : (emit e s).taking = s.taking := rfl

/-! ### `driveLine_cs` -/

@[simp] theorem driveLine_cs_cfg (v : Bool) : (driveLine .cs v s).cfg = s.cfg := rfl
@[simp] theorem driveLine_cs_chan (v : Bool) : (driveLine .cs v s).chan = s.chan := rfl
@[simp] theorem driveLine_cs_vref (v : Bool) : (driveLine .cs v s).vref = s.vref := rfl
@[simp] theorem driveLine_cs_refmode (v : Bool) : (driveLine .cs v s).refmode = s.refmode := rfl
@[simp] theorem driveLine_cs_phase (v : Bool) : (driveLine .cs v s).phase = s.phase := rfl
@[simp] theorem driveLine_cs_position (v : Bool) : (driveLine .cs v s).position = s.position + 1 := rfl
@[simp] theorem driveLine_cs_busy (v : Bool) : (driveLine .cs v s).busy = s.busy := rfl
@[simp] theorem driveLine_cs_cs (v : Bool) : (driveLine .cs v s).cs = v := rfl
@[simp] theorem driveLine_cs_rst (v : Bool) : (driveLine .cs v s).rst = s.rst := rfl
@[simp] theorem driveLine_cs_sync (v : Bool) : (driveLine .cs v s).sync = s.sync := rfl
@[simp] theorem driveLine_cs_pending (v : Bool) : (driveLine .cs v s).pending = s.pending := rfl
@[simp] theorem driveLine_cs_resultPort (v : Bool) : (driveLine .cs v s).resultPort = s.resultPort := rfl
@[simp] theorem driveLine_cs_results (v : Bool) : (driveLine .cs v s).results = s.results := rfl
@[simp] theorem driveLine_cs_trace (v : Bool) : (driveLine .cs v s).trace = s.trace ++ [.line .cs v] := rfl
@[simp] theorem driveLine_cs_env (v : Bool) : (driveLine .cs v s).env = s.env := rfl
@[simp] theorem driveLine_cs_asked (v : Bool) : (driveLine .cs v s).asked = s.asked := rfl
@[simp] theorem driveLine_cs_slot (v : Bool) : (driveLine .cs v s).slot = s.slot := rfl
@[simp] theorem driveLine_cs_taking (v : Bool) : (driveLine .cs v s).taking = s.taking := rfl

/-! ### `driveLine_rst` -/

@[simp] theorem driveLine_rst_cfg (v : Bool) : (driveLine .rst v s).cfg = s.cfg := rfl
@[simp] theorem driveLine_rst_chan (v : Bool) : (driveLine .rst v s).chan = s.chan := rfl
@[simp] theorem driveLine_rst_vref (v : Bool) : (driveLine .rst v s).vref = s.vref := rfl
@[simp] theorem driveLine_rst_refmode (v : Bool) : (driveLine .rst v s).refmode = s.refmode := rfl
@[simp] theorem driveLine_rst_phase (v : Bool) : (driveLine .rst v s).phase = s.phase := rfl
@[simp] theorem driveLine_rst_position (v : Bool) : (driveLine .rst v s).position = s.position + 1 := rfl
@[simp] theorem driveLine_rst_busy (v : Bool) : (driveLine .rst v s).busy = s.busy := rfl
@[simp] theorem driveLine_rst_cs (v : Bool) : (driveLine .rst v s).cs = s.cs := rfl
@[simp] theorem driveLine_rst_rst (v : Bool) : (driveLine .rst v s).rst = v := rfl
@[simp] theorem driveLine_rst_sync (v : Bool) : (driveLine .rst v s).sync = s.sync := rfl
@[simp] theorem driveLine_rst_pending (v : Bool) : (driveLine .rst v s).pending = s.pending := rfl
@[simp] theorem driveLine_rst_resultPort (v : Bool) : (driveLine .rst v s).resultPort = s.resultPort := rfl
@[simp] theorem driveLine_rst_results (v : Bool) : (driveLine .rst v s).results = s.results := rfl
@[simp] theorem driveLine_rst_trace (v : Bool) : (driveLine .rst v s).trace = s.trace ++ [.line .rst v] := rfl
@[simp] theorem driveLine_rst_env (v : Bool) : (driveLine .rst v s).env = s.env := rfl
@[simp] theorem driveLine_rst_asked (v : Bool) : (driveLine .rst v s).asked = s.asked := rfl
@[simp] theorem driveLine_rst_slot (v : Bool) : (driveLine .rst v s).slot = s.slot := rfl
@[simp] theorem driveLine_rst_taking (v : Bool) : (driveLine .rst v s).taking = s.taking := rfl

/-! ### `driveLine_sync` -/

@[simp] theorem driveLine_sync_cfg (v : Bool) : (driveLine .sync v s).cfg = s.cfg := rfl
@[simp] theorem driveLine_sync_chan (v : Bool) : (driveLine .sync v s).chan = s.chan := rfl
@[simp] theorem driveLine_sync_vref (v : Bool) : (driveLine .sync v s).vref = s.vref := rfl
@[simp] theorem driveLine_sync_refmode (v : Bool) : (driveLine .sync v s).refmode = s.refmode := rfl
@[simp] theorem driveLine_sync_phase (v : Bool) : (driveLine .sync v s).phase = s.phase := rfl
@[simp] theorem driveLine_sync_position (v : Bool) : (driveLine .sync v s).position = s.position + 1 := rfl
@[simp] theorem driveLine_sync_busy (v : Bool) : (driveLine .sync v s).busy = s.busy := rfl
@[simp] theorem driveLine_sync_cs (v : Bool) : (driveLine .sync v s).cs = s.cs := rfl
@[simp] theorem driveLine_sync_rst (v : Bool) : (driveLine .sync v s).rst = s.rst := rfl
@[simp] theorem driveLine_sync_sync (v : Bool) : (driveLine .sync v s).sync = v := rfl
@[simp] theorem driveLine_sync_pending (v : Bool) : (driveLine .sync v s).pending = s.pending := rfl
@[simp] theorem driveLine_sync_resultPort (v : Bool) : (driveLine .sync v s).resultPort = s.resultPort := rfl
@[simp] theorem driveLine_sync_results (v : Bool) : (driveLine .sync v s).results = s.results := rfl
@[simp] theorem driveLine_sync_trace (v : Bool) : (driveLine .sync v s).trace = s.trace ++ [.line .sync v] := rfl
@[simp] theorem driveLine_sync_env (v : Bool) : (driveLine .sync v s).env = s.env := rfl
@[simp] theorem driveLine_sync_asked (v : Bool) : (driveLine .sync v s).asked = s.asked := rfl
@[simp] theorem driveLine_sync_slot (v : Bool) : (driveLine .sync v s).slot = s.slot := rfl
@[simp] theorem driveLine_sync_taking (v : Bool) : (driveLine .sync v s).taking = s.taking := rfl

/-! ### `delay` -/

@[simp] theorem delay_cfg (p : DelayName) : (delay p s).cfg = s.cfg := rfl
@[simp] theorem delay_chan (p : DelayName) : (delay p s).chan = s.chan := rfl
@[simp] theorem delay_vref (p : DelayName) : (delay p s).vref = s.vref := rfl
@[simp] theorem delay_refmode (p : DelayName) : (delay p s).refmode = s.refmode := rfl
@[simp] theorem delay_phase (p : DelayName) : (delay p s).phase = s.phase := rfl
@[simp] theorem delay_position (p : DelayName) : (delay p s).position = s.position + 1 := rfl
@[simp] theorem delay_busy (p : DelayName) : (delay p s).busy = s.busy := rfl
@[simp] theorem delay_cs (p : DelayName) : (delay p s).cs = s.cs := rfl
@[simp] theorem delay_rst (p : DelayName) : (delay p s).rst = s.rst := rfl
@[simp] theorem delay_sync (p : DelayName) : (delay p s).sync = s.sync := rfl
@[simp] theorem delay_pending (p : DelayName) : (delay p s).pending = s.pending := rfl
@[simp] theorem delay_resultPort (p : DelayName) : (delay p s).resultPort = s.resultPort := rfl
@[simp] theorem delay_results (p : DelayName) : (delay p s).results = s.results := rfl
@[simp] theorem delay_trace (p : DelayName) : (delay p s).trace = s.trace ++ [.delay p] := rfl
@[simp] theorem delay_env (p : DelayName) : (delay p s).env = s.env := rfl
@[simp] theorem delay_asked (p : DelayName) : (delay p s).asked = s.asked := rfl
@[simp] theorem delay_slot (p : DelayName) : (delay p s).slot = s.slot := rfl
@[simp] theorem delay_taking (p : DelayName) : (delay p s).taking = s.taking := rfl

/-! ### `consume` -/

@[simp] theorem consume_cfg (n : Nat) : (consume n s).cfg = s.cfg := rfl
@[simp] theorem consume_chan (n : Nat) : (consume n s).chan = s.chan := rfl
@[simp] theorem consume_vref (n : Nat) : (consume n s).vref = s.vref := rfl
@[simp] theorem consume_refmode (n : Nat) : (consume n s).refmode = s.refmode := rfl
@[simp] theorem consume_phase (n : Nat) : (consume n s).phase = s.phase := rfl
@[simp] theorem consume_position (n : Nat) : (consume n s).position = s.position := rfl
@[simp] theorem consume_busy (n : Nat) : (consume n s).busy = s.busy := rfl
@[simp] theorem consume_cs (n : Nat) : (consume n s).cs = s.cs := rfl
@[simp] theorem consume_rst (n : Nat) : (consume n s).rst = s.rst := rfl
@[simp] theorem consume_sync (n : Nat) : (consume n s).sync = s.sync := rfl
@[simp] theorem consume_pending (n : Nat) : (consume n s).pending = s.pending := rfl
@[simp] theorem consume_resultPort (n : Nat) : (consume n s).resultPort = s.resultPort := rfl
@[simp] theorem consume_results (n : Nat) : (consume n s).results = s.results := rfl
@[simp] theorem consume_trace (n : Nat) : (consume n s).trace = s.trace := rfl
@[simp] theorem consume_env (n : Nat) : (consume n s).env = s.env.drop n := rfl
@[simp] theorem consume_asked (n : Nat) : (consume n s).asked = s.asked + n := rfl
@[simp] theorem consume_slot (n : Nat) : (consume n s).slot = s.slot := rfl
@[simp] theorem consume_taking (n : Nat) : (consume n s).taking = s.taking := rfl

/-! ### `setPhase` -/

@[simp] theorem setPhase_cfg (p : Phase) : (setPhase p s).cfg = s.cfg := rfl
@[simp] theorem setPhase_chan (p : Phase) : (setPhase p s).chan = s.chan := rfl
@[simp] theorem setPhase_vref (p : Phase) : (setPhase p s).vref = s.vref := rfl
@[simp] theorem setPhase_refmode (p : Phase) : (setPhase p s).refmode = s.refmode := rfl
@[simp] theorem setPhase_phase (p : Phase) : (setPhase p s).phase = p := rfl
@[simp] theorem setPhase_position (p : Phase) : (setPhase p s).position = s.position := rfl
@[simp] theorem setPhase_busy (p : Phase) : (setPhase p s).busy = s.busy := rfl
@[simp] theorem setPhase_cs (p : Phase) : (setPhase p s).cs = s.cs := rfl
@[simp] theorem setPhase_rst (p : Phase) : (setPhase p s).rst = s.rst := rfl
@[simp] theorem setPhase_sync (p : Phase) : (setPhase p s).sync = s.sync := rfl
@[simp] theorem setPhase_pending (p : Phase) : (setPhase p s).pending = s.pending := rfl
@[simp] theorem setPhase_resultPort (p : Phase) : (setPhase p s).resultPort = s.resultPort := rfl
@[simp] theorem setPhase_results (p : Phase) : (setPhase p s).results = s.results := rfl
@[simp] theorem setPhase_trace (p : Phase) : (setPhase p s).trace = s.trace := rfl
@[simp] theorem setPhase_env (p : Phase) : (setPhase p s).env = s.env := rfl
@[simp] theorem setPhase_asked (p : Phase) : (setPhase p s).asked = s.asked := rfl
@[simp] theorem setPhase_slot (p : Phase) : (setPhase p s).slot = s.slot := rfl
@[simp] theorem setPhase_taking (p : Phase) : (setPhase p s).taking = s.taking := rfl

/-! ### `setChan` -/

@[simp] theorem setChan_cfg (v : BitVec 4) : (setChan v s).cfg = s.cfg := rfl
@[simp] theorem setChan_chan (v : BitVec 4) : (setChan v s).chan = v := rfl
@[simp] theorem setChan_vref (v : BitVec 4) : (setChan v s).vref = s.vref := rfl
@[simp] theorem setChan_refmode (v : BitVec 4) : (setChan v s).refmode = s.refmode := rfl
@[simp] theorem setChan_phase (v : BitVec 4) : (setChan v s).phase = s.phase := rfl
@[simp] theorem setChan_position (v : BitVec 4) : (setChan v s).position = s.position := rfl
@[simp] theorem setChan_busy (v : BitVec 4) : (setChan v s).busy = s.busy := rfl
@[simp] theorem setChan_cs (v : BitVec 4) : (setChan v s).cs = s.cs := rfl
@[simp] theorem setChan_rst (v : BitVec 4) : (setChan v s).rst = s.rst := rfl
@[simp] theorem setChan_sync (v : BitVec 4) : (setChan v s).sync = s.sync := rfl
@[simp] theorem setChan_pending (v : BitVec 4) : (setChan v s).pending = s.pending := rfl
@[simp] theorem setChan_resultPort (v : BitVec 4) : (setChan v s).resultPort = s.resultPort := rfl
@[simp] theorem setChan_results (v : BitVec 4) : (setChan v s).results = s.results := rfl
@[simp] theorem setChan_trace (v : BitVec 4) : (setChan v s).trace = s.trace := rfl
@[simp] theorem setChan_env (v : BitVec 4) : (setChan v s).env = s.env := rfl
@[simp] theorem setChan_asked (v : BitVec 4) : (setChan v s).asked = s.asked := rfl
@[simp] theorem setChan_slot (v : BitVec 4) : (setChan v s).slot = s.slot := rfl
@[simp] theorem setChan_taking (v : BitVec 4) : (setChan v s).taking = s.taking := rfl

/-! ### `setRef` -/

@[simp] theorem setRef_cfg (v : Volts) (m : RefMode) : (setRef v m s).cfg = s.cfg := rfl
@[simp] theorem setRef_chan (v : Volts) (m : RefMode) : (setRef v m s).chan = s.chan := rfl
@[simp] theorem setRef_vref (v : Volts) (m : RefMode) : (setRef v m s).vref = v := rfl
@[simp] theorem setRef_refmode (v : Volts) (m : RefMode) : (setRef v m s).refmode = m := rfl
@[simp] theorem setRef_phase (v : Volts) (m : RefMode) : (setRef v m s).phase = s.phase := rfl
@[simp] theorem setRef_position (v : Volts) (m : RefMode) : (setRef v m s).position = s.position := rfl
@[simp] theorem setRef_busy (v : Volts) (m : RefMode) : (setRef v m s).busy = s.busy := rfl
@[simp] theorem setRef_cs (v : Volts) (m : RefMode) : (setRef v m s).cs = s.cs := rfl
@[simp] theorem setRef_rst (v : Volts) (m : RefMode) : (setRef v m s).rst = s.rst := rfl
@[simp] theorem setRef_sync (v : Volts) (m : RefMode) : (setRef v m s).sync = s.sync := rfl
@[simp] theorem setRef_pending (v : Volts) (m : RefMode) : (setRef v m s).pending = s.pending := rfl
@[simp] theorem setRef_resultPort (v : Volts) (m : RefMode) : (setRef v m s).resultPort = s.resultPort := rfl
@[simp] theorem setRef_results (v : Volts) (m : RefMode) : (setRef v m s).results = s.results := rfl
@[simp] theorem setRef_trace (v : Volts) (m : RefMode) : (setRef v m s).trace = s.trace := rfl
@[simp] theorem setRef_env (v : Volts) (m : RefMode) : (setRef v m s).env = s.env := rfl
@[simp] theorem setRef_asked (v : Volts) (m : RefMode) : (setRef v m s).asked = s.asked := rfl
@[simp] theorem setRef_slot (v : Volts) (m : RefMode) : (setRef v m s).slot = s.slot := rfl
@[simp] theorem setRef_taking (v : Volts) (m : RefMode) : (setRef v m s).taking = s.taking := rfl

/-! ### `startOperation` -/

@[simp] theorem startOperation_cfg : (startOperation s).cfg = s.cfg := rfl
@[simp] theorem startOperation_chan : (startOperation s).chan = s.chan := rfl
@[simp] theorem startOperation_vref : (startOperation s).vref = s.vref := rfl
@[simp] theorem startOperation_refmode : (startOperation s).refmode = s.refmode := rfl
@[simp] theorem startOperation_phase : (startOperation s).phase = s.phase := rfl
@[simp] theorem startOperation_position : (startOperation s).position = 0 := rfl
@[simp] theorem startOperation_busy : (startOperation s).busy = true := rfl
@[simp] theorem startOperation_cs : (startOperation s).cs = s.cs := rfl
@[simp] theorem startOperation_rst : (startOperation s).rst = s.rst := rfl
@[simp] theorem startOperation_sync : (startOperation s).sync = s.sync := rfl
@[simp] theorem startOperation_pending : (startOperation s).pending = s.pending := rfl
@[simp] theorem startOperation_resultPort : (startOperation s).resultPort = s.resultPort := rfl
@[simp] theorem startOperation_results : (startOperation s).results = s.results := rfl
@[simp] theorem startOperation_trace : (startOperation s).trace = s.trace := rfl
@[simp] theorem startOperation_env : (startOperation s).env = s.env := rfl
@[simp] theorem startOperation_asked : (startOperation s).asked = s.asked := rfl
@[simp] theorem startOperation_slot : (startOperation s).slot = s.slot := rfl
@[simp] theorem startOperation_taking : (startOperation s).taking = s.taking := rfl

/-! ### `present` -/

@[simp] theorem present_cfg (r : Result) : (present r s).cfg = s.cfg := rfl
@[simp] theorem present_chan (r : Result) : (present r s).chan = s.chan := rfl
@[simp] theorem present_vref (r : Result) : (present r s).vref = s.vref := rfl
@[simp] theorem present_refmode (r : Result) : (present r s).refmode = s.refmode := rfl
@[simp] theorem present_phase (r : Result) : (present r s).phase = s.phase := rfl
@[simp] theorem present_position (r : Result) : (present r s).position = 0 := rfl
@[simp] theorem present_busy (r : Result) : (present r s).busy = false := rfl
@[simp] theorem present_cs (r : Result) : (present r s).cs = s.cs := rfl
@[simp] theorem present_rst (r : Result) : (present r s).rst = s.rst := rfl
@[simp] theorem present_sync (r : Result) : (present r s).sync = s.sync := rfl
@[simp] theorem present_pending (r : Result) : (present r s).pending = s.pending := rfl
@[simp] theorem present_resultPort (r : Result) : (present r s).resultPort = some r := rfl
@[simp] theorem present_results (r : Result) : (present r s).results = fillSlot r s.slot s.results := rfl
@[simp] theorem present_trace (r : Result) : (present r s).trace = s.trace := rfl
@[simp] theorem present_env (r : Result) : (present r s).env = s.env := rfl
@[simp] theorem present_asked (r : Result) : (present r s).asked = s.asked := rfl
@[simp] theorem present_slot (r : Result) : (present r s).slot = 0 := rfl
@[simp] theorem present_taking (r : Result) : (present r s).taking = s.taking := rfl

/-! ### `acceptRequest` -/

@[simp] theorem acceptRequest_cfg (before after : List Code) : (acceptRequest before after s).cfg = s.cfg := rfl
@[simp] theorem acceptRequest_chan (before after : List Code) : (acceptRequest before after s).chan = s.chan := rfl
@[simp] theorem acceptRequest_vref (before after : List Code) : (acceptRequest before after s).vref = s.vref := rfl
@[simp] theorem acceptRequest_refmode (before after : List Code) : (acceptRequest before after s).refmode = s.refmode := rfl
@[simp] theorem acceptRequest_phase (before after : List Code) : (acceptRequest before after s).phase = s.phase := rfl
@[simp] theorem acceptRequest_position (before after : List Code) : (acceptRequest before after s).position = s.position := rfl
@[simp] theorem acceptRequest_busy (before after : List Code) : (acceptRequest before after s).busy = s.busy := rfl
@[simp] theorem acceptRequest_cs (before after : List Code) : (acceptRequest before after s).cs = s.cs := rfl
@[simp] theorem acceptRequest_rst (before after : List Code) : (acceptRequest before after s).rst = s.rst := rfl
@[simp] theorem acceptRequest_sync (before after : List Code) : (acceptRequest before after s).sync = s.sync := rfl
@[simp] theorem acceptRequest_pending (before after : List Code) : (acceptRequest before after s).pending = before ++ after := rfl
@[simp] theorem acceptRequest_resultPort (before after : List Code) : (acceptRequest before after s).resultPort = s.resultPort := rfl
@[simp] theorem acceptRequest_results (before after : List Code) : (acceptRequest before after s).results = s.results := rfl
@[simp] theorem acceptRequest_trace (before after : List Code) : (acceptRequest before after s).trace = s.trace := rfl
@[simp] theorem acceptRequest_env (before after : List Code) : (acceptRequest before after s).env = s.env := rfl
@[simp] theorem acceptRequest_asked (before after : List Code) : (acceptRequest before after s).asked = s.asked := rfl
@[simp] theorem acceptRequest_slot (before after : List Code) : (acceptRequest before after s).slot = before.length := rfl
@[simp] theorem acceptRequest_taking (before after : List Code) : (acceptRequest before after s).taking = s.taking := rfl

/-! ### `hostTakes` -/

@[simp] theorem hostTakes_cfg : (hostTakes s).cfg = s.cfg := by unfold hostTakes; split <;> rfl
@[simp] theorem hostTakes_chan : (hostTakes s).chan = s.chan := by unfold hostTakes; split <;> rfl
@[simp] theorem hostTakes_vref : (hostTakes s).vref = s.vref := by unfold hostTakes; split <;> rfl
@[simp] theorem hostTakes_refmode : (hostTakes s).refmode = s.refmode := by unfold hostTakes; split <;> rfl
@[simp] theorem hostTakes_phase : (hostTakes s).phase = s.phase := by unfold hostTakes; split <;> rfl
@[simp] theorem hostTakes_position : (hostTakes s).position = s.position := by unfold hostTakes; split <;> rfl
@[simp] theorem hostTakes_busy : (hostTakes s).busy = s.busy := by unfold hostTakes; split <;> rfl
@[simp] theorem hostTakes_cs : (hostTakes s).cs = s.cs := by unfold hostTakes; split <;> rfl
@[simp] theorem hostTakes_rst : (hostTakes s).rst = s.rst := by unfold hostTakes; split <;> rfl
@[simp] theorem hostTakes_sync : (hostTakes s).sync = s.sync := by unfold hostTakes; split <;> rfl
@[simp] theorem hostTakes_pending : (hostTakes s).pending = s.pending := by unfold hostTakes; split <;> rfl
@[simp] theorem hostTakes_slot : (hostTakes s).slot = s.slot := by unfold hostTakes; split <;> rfl
@[simp] theorem hostTakes_results : (hostTakes s).results = s.results := by unfold hostTakes; split <;> rfl
@[simp] theorem hostTakes_trace : (hostTakes s).trace = s.trace := by unfold hostTakes; split <;> rfl
@[simp] theorem hostTakes_env : (hostTakes s).env = s.env := by unfold hostTakes; split <;> rfl
@[simp] theorem hostTakes_asked : (hostTakes s).asked = s.asked := by unfold hostTakes; split <;> rfl
@[simp] theorem hostTakes_taking : (hostTakes s).taking = s.taking.drop 1 := by
  unfold hostTakes; split <;> simp_all
/-- What taking the result does to the port: it empties it where the host takes, and leaves it otherwise. -/
theorem hostTakes_resultPort :
    (hostTakes s).resultPort = if s.taking.head? = some true then none else s.resultPort := by
  unfold hostTakes; split <;> simp_all
/-- All that the host's side can do in a step: nothing, or leave the port and its own list as it will, and nothing else. -/
theorem hostTakes_cases : ∃ p later, hostTakes s = { s with resultPort := p, taking := later } := by
  unfold hostTakes
  split
  · exact ⟨s.resultPort, s.taking, rfl⟩
  · exact ⟨none, _, rfl⟩
  · exact ⟨s.resultPort, _, rfl⟩
/-- A host that lists nothing does nothing. -/
theorem hostTakes_of_nil (h : s.taking = []) : hostTakes s = s := by simp [hostTakes, h]

/-! ### `csHigh` -/

@[simp] theorem csHigh_cfg : (csHigh s).cfg = s.cfg := rfl
@[simp] theorem csHigh_chan : (csHigh s).chan = s.chan := rfl
@[simp] theorem csHigh_vref : (csHigh s).vref = s.vref := rfl
@[simp] theorem csHigh_refmode : (csHigh s).refmode = s.refmode := rfl
@[simp] theorem csHigh_phase : (csHigh s).phase = s.phase := rfl
@[simp] theorem csHigh_position : (csHigh s).position = s.position := rfl
@[simp] theorem csHigh_busy : (csHigh s).busy = s.busy := rfl
@[simp] theorem csHigh_cs : (csHigh s).cs = true := rfl
@[simp] theorem csHigh_rst : (csHigh s).rst = s.rst := rfl
@[simp] theorem csHigh_sync : (csHigh s).sync = s.sync := rfl
@[simp] theorem csHigh_pending : (csHigh s).pending = s.pending := rfl
@[simp] theorem csHigh_resultPort : (csHigh s).resultPort = s.resultPort := rfl
@[simp] theorem csHigh_results : (csHigh s).results = s.results := rfl
@[simp] theorem csHigh_trace : (csHigh s).trace = s.trace := rfl
@[simp] theorem csHigh_env : (csHigh s).env = s.env := rfl
@[simp] theorem csHigh_asked : (csHigh s).asked = s.asked := rfl
@[simp] theorem csHigh_slot : (csHigh s).slot = s.slot := rfl
@[simp] theorem csHigh_taking : (csHigh s).taking = s.taking := rfl

/-! ### `linesHigh` -/

@[simp] theorem linesHigh_cfg : (linesHigh s).cfg = s.cfg := rfl
@[simp] theorem linesHigh_chan : (linesHigh s).chan = s.chan := rfl
@[simp] theorem linesHigh_vref : (linesHigh s).vref = s.vref := rfl
@[simp] theorem linesHigh_refmode : (linesHigh s).refmode = s.refmode := rfl
@[simp] theorem linesHigh_phase : (linesHigh s).phase = s.phase := rfl
@[simp] theorem linesHigh_position : (linesHigh s).position = s.position := rfl
@[simp] theorem linesHigh_busy : (linesHigh s).busy = s.busy := rfl
@[simp] theorem linesHigh_cs : (linesHigh s).cs = true := rfl
@[simp] theorem linesHigh_rst : (linesHigh s).rst = true := rfl
@[simp] theorem linesHigh_sync : (linesHigh s).sync = true := rfl
@[simp] theorem linesHigh_pending : (linesHigh s).pending = s.pending := rfl
@[simp] theorem linesHigh_resultPort : (linesHigh s).resultPort = s.resultPort := rfl
@[simp] theorem linesHigh_results : (linesHigh s).results = s.results := rfl
@[simp] theorem linesHigh_trace : (linesHigh s).trace = s.trace := rfl
@[simp] theorem linesHigh_env : (linesHigh s).env = s.env := rfl
@[simp] theorem linesHigh_asked : (linesHigh s).asked = s.asked := rfl
@[simp] theorem linesHigh_slot : (linesHigh s).slot = s.slot := rfl
@[simp] theorem linesHigh_taking : (linesHigh s).taking = s.taking := rfl

/-! ### `afterOperation` -/

@[simp] theorem afterOperation_cfg (ev : List Event) (q : Nat) (r : Result) : (afterOperation ev q r s).cfg = s.cfg := rfl
@[simp] theorem afterOperation_chan (ev : List Event) (q : Nat) (r : Result) : (afterOperation ev q r s).chan = s.chan := rfl
@[simp] theorem afterOperation_vref (ev : List Event) (q : Nat) (r : Result) : (afterOperation ev q r s).vref = s.vref := rfl
@[simp] theorem afterOperation_refmode (ev : List Event) (q : Nat) (r : Result) : (afterOperation ev q r s).refmode = s.refmode := rfl
@[simp] theorem afterOperation_phase (ev : List Event) (q : Nat) (r : Result) : (afterOperation ev q r s).phase = s.phase := rfl
@[simp] theorem afterOperation_position (ev : List Event) (q : Nat) (r : Result) : (afterOperation ev q r s).position = 0 := rfl
@[simp] theorem afterOperation_busy (ev : List Event) (q : Nat) (r : Result) : (afterOperation ev q r s).busy = false := rfl
@[simp] theorem afterOperation_cs (ev : List Event) (q : Nat) (r : Result) : (afterOperation ev q r s).cs = s.cs := rfl
@[simp] theorem afterOperation_rst (ev : List Event) (q : Nat) (r : Result) : (afterOperation ev q r s).rst = s.rst := rfl
@[simp] theorem afterOperation_sync (ev : List Event) (q : Nat) (r : Result) : (afterOperation ev q r s).sync = s.sync := rfl
@[simp] theorem afterOperation_pending (ev : List Event) (q : Nat) (r : Result) : (afterOperation ev q r s).pending = s.pending := rfl
@[simp] theorem afterOperation_resultPort (ev : List Event) (q : Nat) (r : Result) : (afterOperation ev q r s).resultPort = some r := rfl
@[simp] theorem afterOperation_results (ev : List Event) (q : Nat) (r : Result) : (afterOperation ev q r s).results = fillSlot r s.slot s.results := rfl
@[simp] theorem afterOperation_trace (ev : List Event) (q : Nat) (r : Result) : (afterOperation ev q r s).trace = s.trace ++ ev := rfl
@[simp] theorem afterOperation_env (ev : List Event) (q : Nat) (r : Result) : (afterOperation ev q r s).env = s.env.drop q := rfl
@[simp] theorem afterOperation_asked (ev : List Event) (q : Nat) (r : Result) : (afterOperation ev q r s).asked = s.asked + q := rfl
@[simp] theorem afterOperation_slot (ev : List Event) (q : Nat) (r : Result) : (afterOperation ev q r s).slot = 0 := rfl
@[simp] theorem afterOperation_taking (ev : List Event) (q : Nat) (r : Result) : (afterOperation ev q r s).taking = s.taking := rfl

/-! ### Block reset -/

@[simp] theorem resetWith_cfg (c : Config) : (State.resetWith c).cfg = c := rfl
@[simp] theorem resetWith_chan (c : Config) : (State.resetWith c).chan = c.defaultChannel := rfl
@[simp] theorem resetWith_vref (c : Config) : (State.resetWith c).vref = c.defaultVref := rfl
@[simp] theorem resetWith_refmode (c : Config) : (State.resetWith c).refmode = .internal := rfl
@[simp] theorem resetWith_phase (c : Config) : (State.resetWith c).phase = .unpowered := rfl
@[simp] theorem resetWith_position (c : Config) : (State.resetWith c).position = 0 := rfl
@[simp] theorem resetWith_busy (c : Config) : (State.resetWith c).busy = false := rfl
@[simp] theorem resetWith_cs (c : Config) : (State.resetWith c).cs = true := rfl
@[simp] theorem resetWith_rst (c : Config) : (State.resetWith c).rst = true := rfl
@[simp] theorem resetWith_sync (c : Config) : (State.resetWith c).sync = true := rfl
@[simp] theorem resetWith_pending (c : Config) : (State.resetWith c).pending = [] := rfl
@[simp] theorem resetWith_resultPort (c : Config) : (State.resetWith c).resultPort = none := rfl
@[simp] theorem resetWith_results (c : Config) : (State.resetWith c).results = [] := rfl
@[simp] theorem resetWith_trace (c : Config) : (State.resetWith c).trace = [] := rfl
@[simp] theorem resetWith_env (c : Config) : (State.resetWith c).env = [] := rfl
@[simp] theorem resetWith_asked (c : Config) : (State.resetWith c).asked = 0 := rfl
@[simp] theorem resetWith_slot (c : Config) : (State.resetWith c).slot = 0 := rfl
@[simp] theorem resetWith_taking (c : Config) : (State.resetWith c).taking = [] := rfl

/-! ### What the environment answers next, across updates -/

@[simp] theorem answer_emit (e : Event) (k : Nat) : answer (emit e s) k = answer s k := rfl
@[simp] theorem answer_driveLine (l : LineName) (v : Bool) (k : Nat) : answer (driveLine l v s) k = answer s k := by
  cases l <;> rfl
@[simp] theorem answer_delay (p : DelayName) (k : Nat) : answer (delay p s) k = answer s k := rfl
@[simp] theorem answer_setPhase (p : Phase) (k : Nat) : answer (setPhase p s) k = answer s k := rfl
@[simp] theorem answer_setChan (v : BitVec 4) (k : Nat) : answer (setChan v s) k = answer s k := rfl
@[simp] theorem answer_setRef (v : Volts) (m : RefMode) (k : Nat) : answer (setRef v m s) k = answer s k := rfl
@[simp] theorem answer_startOperation (k : Nat) : answer (startOperation s) k = answer s k := rfl
@[simp] theorem answer_acceptRequest (before after : List Code) (k : Nat) :
    answer (acceptRequest before after s) k = answer s k := rfl
@[simp] theorem answer_hostTakes (k : Nat) : answer (hostTakes s) k = answer s k := by simp [answer]
@[simp] theorem accepts_hostTakes (c : Code) : accepts (hostTakes s) c = accepts s c := by simp [accepts]

@[simp] theorem answer_present (r : Result) (k : Nat) : answer (present r s) k = answer s k := rfl
@[simp] theorem answer_csHigh (k : Nat) : answer (csHigh s) k = answer s k := rfl
@[simp] theorem answer_linesHigh (k : Nat) : answer (linesHigh s) k = answer s k := rfl

/-- The k-th question after `n` have been asked is the (n + k)-th from now. -/
@[simp] theorem answer_consume (n k : Nat) : answer (consume n s) k = answer s (n + k) := by
  simp [answer, Nat.add_assoc]

@[simp] theorem answer_afterOperation (ev : List Event) (q : Nat) (r : Result) (k : Nat) :
    answer (afterOperation ev q r s) k = answer s (q + k) := by
  simp [answer, Nat.add_assoc]

/-- Where `env` has an entry, it is the answer. -/
theorem answer_of_env (k : Nat) (m : EnvMoment) (h : s.env[k]? = some m) : answer s k = m := by
  simp [answer, h]

@[simp] theorem driveLine_cfg (l : LineName) (v : Bool) : (driveLine l v s).cfg = s.cfg := by cases l <;> rfl

end Sys2Proof.Machine
end

