-- ==== Sys2Proof/Laws/Ops.lean ====
section
/-! SUPPORT. What each shared operation can do, said once: the bus calls, the frames, the read procedures, `raise` and the
end of an operation. -/

namespace Sys2Proof.Machine

variable (s : State)

/-! ### Flow -/

@[simp] theorem andThen_done {α β : Type} (a : α) (t : State) (g : α → State → Flow β) :
    (Flow.done a t).andThen g = g a t := rfl

@[simp] theorem andThen_raised {α β : Type} (x : Status) (t : State) (g : α → State → Flow β) :
    (Flow.raised x t).andThen g = .raised x t := rfl

/-- A sequence ends with a value only if both halves do. -/
theorem andThen_eq_done {α β : Type} {f : Flow α} {g : α → State → Flow β} {b : β} {t : State}
    (h : f.andThen g = .done b t) : ∃ a u, f = .done a u ∧ g a u = .done b t := by
  cases f with
  | done a u => exact ⟨a, u, rfl, h⟩
  | raised x u => cases h

/-- A sequence raises where its first half does, or where its second half does. -/
theorem andThen_eq_raised {α β : Type} {f : Flow α} {g : α → State → Flow β} {x : Status} {t : State}
    (h : f.andThen g = .raised x t) : f = .raised x t ∨ ∃ a u, f = .done a u ∧ g a u = .raised x t := by
  cases f with
  | done a u => exact .inr ⟨a, u, rfl, h⟩
  | raised y u => exact .inl (by cases h; rfl)

/-! ### Bus calls -/

theorem busWrite_ok (bytes : List Byte) (h : (answer s 0).busFault = false) :
    busWrite bytes s = .done () (emit (.busWrite bytes) (consume 1 s)) := by simp [busWrite, h]

theorem busWrite_fault (bytes : List Byte) (h : (answer s 0).busFault = true) :
    busWrite bytes s = .raised .busFault (emit (.busFault .write) (consume 1 s)) := by simp [busWrite, h]

theorem busXchg_ok (out : List Byte) (h : (answer s 0).busFault = false) :
    busXchg out s
      = .done (misoSample (answer s 0)) (emit (.busXchg out (misoBytes (answer s 0))) (consume 1 s)) := by
  simp [busXchg, h]

theorem busXchg_fault (out : List Byte) (h : (answer s 0).busFault = true) :
    busXchg out s = .raised .busFault (emit (.busFault .exchange) (consume 1 s)) := by simp [busXchg, h]

/-! ### Frames: a transaction ends with the frame closed, or raises BusFault with it open -/

theorem sendCmd_ok (code : Byte) (h : (answer s 0).busFault = false) :
    sendCmd code s
      = .done () (driveLine .cs true (emit (.busWrite [code]) (consume 1 (driveLine .cs false s)))) := by
  simp [sendCmd, inFrame, busWrite_ok, h, encodeCommandByte]

theorem sendCmd_fault (code : Byte) (h : (answer s 0).busFault = true) :
    sendCmd code s = .raised .busFault (emit (.busFault .write) (consume 1 (driveLine .cs false s))) := by
  simp [sendCmd, inFrame, busWrite_fault, h]

theorem writeReg_ok (r : RegAddr) (v : Byte) (h : (answer s 0).busFault = false) :
    writeReg r v s
      = .done () (driveLine .cs true
          (emit (.busWrite (encodeWriteBytes s.cfg r v)) (consume 1 (driveLine .cs false s)))) := by
  simp [writeReg, inFrame, busWrite_ok, h]

theorem writeReg_fault (r : RegAddr) (v : Byte) (h : (answer s 0).busFault = true) :
    writeReg r v s = .raised .busFault (emit (.busFault .write) (consume 1 (driveLine .cs false s))) := by
  simp [writeReg, inFrame, busWrite_fault, h]

theorem rawFreewheel_ok (h : (answer s 0).busFault = false) :
    rawFreewheel s
      = .done (misoSample (answer s 0)) (driveLine .cs true
          (emit (.busXchg (dummyBytes s.cfg) (misoBytes (answer s 0))) (consume 1 (driveLine .cs false s)))) := by
  simp [rawFreewheel, inFrame, busXchg_ok, h]

theorem rawFreewheel_fault (h : (answer s 0).busFault = true) :
    rawFreewheel s = .raised .busFault (emit (.busFault .exchange) (consume 1 (driveLine .cs false s))) := by
  simp [rawFreewheel, inFrame, busXchg_fault, h]

theorem rdataFrame_ok (h0 : (answer s 0).busFault = false) (h1 : (answer s 1).busFault = false) :
    rdataFrame s
      = .done (misoSample (answer s 1)) (driveLine .cs true
          (emit (.busXchg (dummyBytes s.cfg) (misoBytes (answer s 1))) (consume 1
            (emit (.busWrite [s.cfg.cmdRdata]) (consume 1 (driveLine .cs false s)))))) := by
  simp [rdataFrame, inFrame, busWrite_ok, busXchg_ok, h0, h1]

theorem rdataFrame_write_fault (h0 : (answer s 0).busFault = true) :
    rdataFrame s = .raised .busFault (emit (.busFault .write) (consume 1 (driveLine .cs false s))) := by
  simp [rdataFrame, inFrame, busWrite_fault, h0]

theorem rdataFrame_exchange_fault (h0 : (answer s 0).busFault = false) (h1 : (answer s 1).busFault = true) :
    rdataFrame s
      = .raised .busFault (emit (.busFault .exchange) (consume 1
          (emit (.busWrite [s.cfg.cmdRdata]) (consume 1 (driveLine .cs false s))))) := by
  simp [rdataFrame, inFrame, busWrite_ok, busXchg_fault, h0, h1]

theorem rawRdata_ready (h : drdyAsserted s.cfg (answer s 0) = true) :
    rawRdata s = rdataFrame (emit (.drdySample true) (consume 1 s)) := by
  simp [rawRdata, sampleDrdy, h]

theorem rawRdata_not_ready (h : drdyAsserted s.cfg (answer s 0) = false) :
    rawRdata s = .raised .dataNotReady (emit (.drdySample false) (consume 1 s)) := by
  simp [rawRdata, sampleDrdy, h]

@[simp] theorem rawByPath_freewheel : rawByPath .freewheel s = rawFreewheel s := rfl
@[simp] theorem rawByPath_rdata : rawByPath .rdata s = rawRdata s := rfl

/-! ### `raise` and the end of an operation -/

theorem closeFrame_open (h : s.cs = false) : closeFrame s = driveLine .cs true s := by simp [closeFrame, h]
theorem closeFrame_closed (h : s.cs = true) : closeFrame s = s := by simp [closeFrame, h]

@[simp] theorem raise_invalidChannel (b : Bool) : raise b .invalidChannel s = present ⟨.invalidChannel, 0⟩ s := rfl
@[simp] theorem raise_dataNotReady (b : Bool) : raise b .dataNotReady s = present ⟨.dataNotReady, 0⟩ s := rfl
@[simp] theorem raise_illegalOp (b : Bool) : raise b .illegalOp s = present ⟨.illegalOp, 0⟩ s := rfl
@[simp] theorem raise_busFault : raise false .busFault s = present ⟨.busFault, 0⟩ (closeFrame s) := rfl
@[simp] theorem raise_busFault_bringup :
    raise true .busFault s = present ⟨.busFault, 0⟩ (setPhase .unpowered (closeFrame s)) := rfl

@[simp] theorem conclude_done (b : Bool) (d : Data) : conclude b (.done d s) = present ⟨.ok, d⟩ s := rfl
@[simp] theorem conclude_raised (b : Bool) (x : Status) : conclude b (.raised x s) = raise b x s := rfl

/-- However an operation ends, the result port holds its result and the block is idle. -/
theorem conclude_presents (b : Bool) (f : Flow Data) :
    ∃ r, (conclude b f).resultPort = some r ∧ (conclude b f).busy = false ∧ (conclude b f).position = 0 := by
  cases f with
  | done d t => exact ⟨⟨.ok, d⟩, rfl, rfl, rfl⟩
  | raised x t => exact ⟨⟨x, 0⟩, rfl, rfl, rfl⟩

end Sys2Proof.Machine
end

