-- ==== Sys2Proof/Laws/PerInstr.lean ====
section
/-! SUPPORT. Statements made of every instruction as it is written: `EncodedWidth` says that an instruction's encoding has
the width of its row in the opcode table (`spec/30_encoding.md` rules R80 and R84), under every parameter set. -/

namespace Sys2Proof.Laws

/-- The width of an instruction's words in bits. -/
def codeWidth : Code → Nat
  | .request _ => 36
  | .frame bytes => 8 * bytes.length

/-- The "width" column of the opcode table. -/
def rowWidth : Instr → Nat
  | .bringup => 36
  | .encodeWrite _ _ => 36
  | .encodeCommand _ => 36
  | .setChannel _ => 36
  | .setReference _ => 36
  | .isDataReady => 36
  | .readRaw => 36
  | .readRdata => 36
  | .readInt _ => 36
  | .readVolt _ => 36
  | .reservedAB _ => 36
  | .reservedCF _ => 36
  | .cmdNop => 8
  | .cmdWakeup => 8
  | .cmdPowerdown => 8
  | .cmdReset => 8
  | .cmdStart => 8
  | .cmdStop => 8
  | .cmdSyocal => 8
  | .cmdSygcal => 8
  | .cmdSfocal => 8
  | .cmdRreg => 8
  | .wreg _ _ => 24
  | .wregInpmux _ _ => 24
  | .wregRef _ => 24
  | .rd3 => 24
  | .rdata4 => 32

/-- An instruction's encoding has the width of its row, under every parameter set. -/
def EncodedWidth.Statement (i : Instr) : Prop := ∀ c : Config, codeWidth (encode c i) = rowWidth i

theorem EncodedWidth.bringup : EncodedWidth.Statement (.bringup) := fun _ => rfl
theorem EncodedWidth.encodeWrite (r : RegAddr) (v : Byte) : EncodedWidth.Statement (.encodeWrite r v) := fun _ => rfl
theorem EncodedWidth.encodeCommand (b : Byte) : EncodedWidth.Statement (.encodeCommand b) := fun _ => rfl
theorem EncodedWidth.setChannel (ch : BitVec 32) : EncodedWidth.Statement (.setChannel ch) := fun _ => rfl
theorem EncodedWidth.setReference (v : Volts) : EncodedWidth.Statement (.setReference v) := fun _ => rfl
theorem EncodedWidth.isDataReady : EncodedWidth.Statement (.isDataReady) := fun _ => rfl
theorem EncodedWidth.readRaw : EncodedWidth.Statement (.readRaw) := fun _ => rfl
theorem EncodedWidth.readRdata : EncodedWidth.Statement (.readRdata) := fun _ => rfl
theorem EncodedWidth.readInt (p : ReadPath) : EncodedWidth.Statement (.readInt p) := fun _ => rfl
theorem EncodedWidth.readVolt (p : ReadPath) : EncodedWidth.Statement (.readVolt p) := fun _ => rfl
theorem EncodedWidth.reservedAB (low : BitVec 1) : EncodedWidth.Statement (.reservedAB low) := fun _ => rfl
theorem EncodedWidth.reservedCF (low : BitVec 2) : EncodedWidth.Statement (.reservedCF low) := fun _ => rfl
theorem EncodedWidth.cmdNop : EncodedWidth.Statement (.cmdNop) := fun _ => rfl
theorem EncodedWidth.cmdWakeup : EncodedWidth.Statement (.cmdWakeup) := fun _ => rfl
theorem EncodedWidth.cmdPowerdown : EncodedWidth.Statement (.cmdPowerdown) := fun _ => rfl
theorem EncodedWidth.cmdReset : EncodedWidth.Statement (.cmdReset) := fun _ => rfl
theorem EncodedWidth.cmdStart : EncodedWidth.Statement (.cmdStart) := fun _ => rfl
theorem EncodedWidth.cmdStop : EncodedWidth.Statement (.cmdStop) := fun _ => rfl
theorem EncodedWidth.cmdSyocal : EncodedWidth.Statement (.cmdSyocal) := fun _ => rfl
theorem EncodedWidth.cmdSygcal : EncodedWidth.Statement (.cmdSygcal) := fun _ => rfl
theorem EncodedWidth.cmdSfocal : EncodedWidth.Statement (.cmdSfocal) := fun _ => rfl
theorem EncodedWidth.cmdRreg : EncodedWidth.Statement (.cmdRreg) := fun _ => rfl
theorem EncodedWidth.wreg (r : RegAddr) (v : Byte) : EncodedWidth.Statement (.wreg r v) := fun _ => rfl
theorem EncodedWidth.wregInpmux (ch neg : BitVec 4) : EncodedWidth.Statement (.wregInpmux ch neg) := fun _ => rfl
theorem EncodedWidth.wregRef (p : Byte) : EncodedWidth.Statement (.wregRef p) := fun _ => rfl
theorem EncodedWidth.rd3 : EncodedWidth.Statement (.rd3) := fun _ => rfl
theorem EncodedWidth.rdata4 : EncodedWidth.Statement (.rdata4) := fun _ => rfl

end Sys2Proof.Laws
end

