-- ==== Sys2Proof/Laws/Port.lean ====
section
/-! SUPPORT. What the request port can hand over, what a step does then, and where a result goes. -/

namespace Sys2Proof.Machine

/-- What `takeFirst` answers: the list is split at its first admitted entry. -/
theorem takeFirst_some {p : Code → Bool} {l : List Code} {before after : List Code} {c : Code}
    (h : takeFirst p l = some (before, c, after)) :
    l = before ++ c :: after ∧ p c = true ∧ ∀ d ∈ before, p d = false := by
  induction l generalizing before c after with
  | nil => cases h
  | cons x xs ih =>
    simp only [takeFirst] at h
    by_cases hx : p x = true
    · simp only [hx, if_true, Option.some.injEq, Prod.mk.injEq] at h
      obtain ⟨rfl, rfl, rfl⟩ := h
      exact ⟨rfl, hx, by simp⟩
    · simp only [hx] at h
      cases ht : takeFirst p xs with
      | none => simp [ht] at h
      | some bda =>
        obtain ⟨b, d, a⟩ := bda
        simp only [ht, Bool.false_eq_true, if_false, Option.some.injEq, Prod.mk.injEq] at h
        obtain ⟨rfl, rfl, rfl⟩ := h
        obtain ⟨h1, h2, h3⟩ := ih ht
        exact ⟨by simp [h1], h2, by simpa [hx] using h3⟩

/-- `takeFirst` answers nothing exactly when no entry is admitted. -/
theorem takeFirst_none {p : Code → Bool} {l : List Code} : takeFirst p l = none ↔ ∀ d ∈ l, p d = false := by
  induction l with
  | nil => simp [takeFirst]
  | cons x xs ih =>
    simp only [takeFirst, List.forall_mem_cons]
    by_cases hx : p x = true
    · simp [hx]
    · cases ht : takeFirst p xs with
      | none => simpa [hx, ht] using ih.mp ht
      | some bda =>
        have hn : ¬ ∀ d ∈ xs, p d = false := fun h => by simpa [ht] using ih.mpr h
        simpa [hx, ht] using hn

/-- Taking a result changes nothing at the request port. -/
@[simp] theorem nextAccepted_hostTakes (s : State) : nextAccepted (hostTakes s) = nextAccepted s := by
  simp only [nextAccepted, hostTakes_pending]
  congr 1
  funext c
  exact accepts_hostTakes s c

/-- What a step can do once the host has taken the result or not: wait, stop on a frame of no row, or run the oldest
accepted request. -/
theorem step_cases (s : State) :
    (nextAccepted s = none ∧ step s = .next (hostTakes s))
      ∨ (∃ before c after e, nextAccepted s = some (before, c, after) ∧ decode s.cfg c = .error e
        ∧ step s = .fault (.unknownFrame e))
      ∨ (∃ before c after i, nextAccepted s = some (before, c, after) ∧ decode s.cfg c = .ok i
        ∧ step s = exec i (acceptRequest before after (hostTakes s))) := by
  unfold step runAccepted
  rw [nextAccepted_hostTakes]
  cases h : nextAccepted s with
  | none => exact .inl ⟨rfl, rfl⟩
  | some bca =>
    obtain ⟨before, c, after⟩ := bca
    cases hd : decode s.cfg c with
    | error e => exact .inr (.inl ⟨before, c, after, e, rfl, hd, by simp [hd]⟩)
    | ok i => exact .inr (.inr ⟨before, c, after, i, rfl, hd, by simp [hd]⟩)

/-- A code presented first is the one the step takes, and the port holds the others. -/
theorem nextAccepted_presentFirst (code : Code) (s : State) :
    nextAccepted (presentFirst code s) = some ([], code, s.pending) := by
  have h : accepts (presentFirst code s) code = true := by
    unfold accepts presentFirst admittingPhase
    by_cases hp : phaseAdmits s.cfg s.phase code = true
    · simp [hp]
    · simp only [hp, Bool.false_eq_true, if_false, Bool.not_false, Bool.true_and]
      unfold phaseAdmits
      cases decode s.cfg code <;> simp
  have hp : (presentFirst code s).pending = code :: s.pending := rfl
  unfold nextAccepted
  rw [hp]
  simp [takeFirst, h]

/-- The step of the machine runs exactly the word that `withFetchWord` presents. -/
theorem step_withFetchWord (s : State) (nbits w : Nat) (i : Instr)
    (h : decode s.cfg (codeOfTableWord nbits w) = .ok i) :
    step (s.withFetchWord nbits w) = exec i (acceptRequest [] s.pending (hostTakes (s.withFetchWord nbits w))) := by
  have hc : decode (s.withFetchWord nbits w).cfg (codeOfTableWord nbits w) = .ok i := h
  unfold step runAccepted
  rw [nextAccepted_hostTakes, State.withFetchWord, nextAccepted_presentFirst]
  simp only [State.withFetchWord] at hc
  simp [hc]

/-! ### Where a result goes -/

/-- What `fillSlot` does: one entry that held no result, with `n` such entries before it, now holds `r`; every other entry
is as it was. -/
theorem fillSlot_spec (r : Result) (n : Nat) (l : List (Option Result)) :
    ∃ k, (l[k]?).join = none ∧ ((List.range k).countP fun j => ((l[j]?).join).isNone) = n
      ∧ ((fillSlot r n l)[k]?).join = some r ∧ ∀ j, j ≠ k → ((fillSlot r n l)[j]?).join = (l[j]?).join := by
  induction l generalizing n with
  | nil =>
    refine ⟨n, rfl, by simp, by simp [fillSlot], fun j hj => ?_⟩
    simp only [fillSlot, List.getElem?_append, List.length_replicate, List.getElem?_replicate]
    rcases Nat.lt_or_gt_of_ne hj with h | h
    · simp [h]
    · have h1 : ¬ j < n := by omega
      have h2 : j - n ≠ 0 := by omega
      simp [h1, h2]
  | cons x l ih =>
    cases x with
    | some x =>
      obtain ⟨k, h1, h2, h3, h4⟩ := ih n
      refine ⟨k + 1, by simpa using h1, ?_, by simpa [fillSlot] using h3, fun j hj => ?_⟩
      · simpa [List.range_succ_eq_map, List.countP_map, Function.comp_def] using h2
      · cases j with
        | zero => simp [fillSlot]
        | succ j => simpa [fillSlot] using h4 j (by omega)
    | none =>
      cases n with
      | zero =>
        refine ⟨0, rfl, rfl, rfl, fun j hj => ?_⟩
        cases j with
        | zero => exact absurd rfl hj
        | succ j => simp [fillSlot]
      | succ n =>
        obtain ⟨k, h1, h2, h3, h4⟩ := ih n
        refine ⟨k + 1, by simpa using h1, ?_, by simpa [fillSlot] using h3, fun j hj => ?_⟩
        · simpa [List.range_succ_eq_map, List.countP_map, Function.comp_def] using h2
        · cases j with
          | zero => simp [fillSlot]
          | succ j => simpa [fillSlot] using h4 j (by omega)

end Sys2Proof.Machine
end

