-- ==== Sys2Proof/Tests/Slice0.lean ====
section
/-! SUPPORT. Tests: words written out from the spec's encodings, ill-formed terms, one-step vectors of
`spec/95_test_vectors.md` (named V1 to V156 there), and for every statement with hypotheses a state and operands that meet
them. -/

open Sys2Proof Sys2Proof.Machine

namespace Sys2Proof.Tests

/-! ## The parameter set and the states of the vectors -/

/-- The defaults of R8 with the placeholder patterns of the vectors, and durations that meet R9 item f. -/
def exampleConfig : Config :=
  { Config.default with
    refInternalPattern := 0x1A
    refExternalPattern := 0x10
    tPowerupSettle := 3
    tResetLow := 1
    tPostReset := 9
    tStartLow := 1
    tInterCmd := 2 }

/-- The environment answers with three bytes, no fault, the data-ready pin low (asserted). -/
def bytes (m0 m1 m2 : Byte) : EnvMoment := ⟨false, m0, m1, m2, false⟩

/-- The environment answers a fault, the pin low. -/
def fault : EnvMoment := ⟨true, 0x00, 0x00, 0x00, false⟩

/-- The data-ready pin is low: asserted. -/
def pinLow : EnvMoment := ⟨false, 0x00, 0x00, 0x00, false⟩

/-- The data-ready pin is high: not asserted; a transport call would fault as well. -/
def pinHigh : EnvMoment := ⟨true, 0xFF, 0xFF, 0xFF, true⟩

/-- The state after block reset, the environment about to answer `env`. -/
def unpowered (env : List EnvMoment) : State := { State.resetWith exampleConfig with env := env }

/-- The registers after a completed BRINGUP (R45), the environment about to answer `env`. -/
def ready (env : List EnvMoment) : State := { unpowered env with phase := .ready }

/-- What an operation presents and emits. -/
def outcome (i : Instr) (s : State) : Option (Option Result × List Event) :=
  match exec i s with
  | .next t => some (t.resultPort, t.trace.drop s.trace.length)
  | .fault _ => none
  | .refused _ => none

/-- A field of the state an operation leaves. -/
def left {α : Type} (f : State → α) (i : Instr) (s : State) : Option α :=
  match exec i s with
  | .next t => some (f t)
  | .fault _ => none
  | .refused _ => none

/-! ## Well-formedness: what each check refuses (R9; the opcode table's field notes) -/

theorem test_exampleConfig_legal : ConfigLegal exampleConfig ∧ exampleConfig.framesDistinct = true := by
  unfold ConfigLegal; decide

theorem test_illFormed_a_wreg : Config.wellFormed { exampleConfig with cmdWreg := 0x41 } = false := by decide
theorem test_illFormed_a_rreg : Config.wellFormed { exampleConfig with cmdRreg := 0x21 } = false := by decide
theorem test_illFormed_b_inpmux_low : Config.wellFormed { exampleConfig with regMin := 0x03 } = false := by decide
theorem test_illFormed_b_inpmux_high : Config.wellFormed { exampleConfig with regInpmux := 0x12 } = false := by decide
theorem test_illFormed_b_ref_low : Config.wellFormed { exampleConfig with regMin := 0x06, regInpmux := 0x07 } = false := by decide
theorem test_illFormed_b_ref_high : Config.wellFormed { exampleConfig with regRef := 0x12 } = false := by decide
theorem test_illFormed_b_same : Config.wellFormed { exampleConfig with regRef := 0x02 } = false := by decide
theorem test_illFormed_c_patterns : Config.wellFormed { exampleConfig with refExternalPattern := 0x1A } = false := by decide
theorem test_illFormed_d_nibble : Config.wellFormed { exampleConfig with negInputSelect := 0x5 } = false := by decide
theorem test_illFormed_e_channel : Config.wellFormed { exampleConfig with defaultChannel := 12 } = false := by decide
theorem test_illFormed_f_durations : Config.wellFormed { exampleConfig with tPostReset := 1 } = false := by decide
theorem test_illFormed_m1Value : Config.hasM1Values { exampleConfig with chanMax := 10 } = false := by decide
theorem test_illFormed_sameCodes : Config.framesDistinct { exampleConfig with cmdStop := 0x08 } = false := by decide
theorem test_illFormed_dummyIsWrite : Config.framesDistinct { exampleConfig with dummy := 0x40 } = false := by decide
theorem test_illFormed_register_0x12 : Instr.wellFormed exampleConfig (.wreg 0x12 0x00) = false := by decide
theorem test_illFormed_register_0x1F : Instr.wellFormed exampleConfig (.wreg 0x1F 0x00) = false := by decide
theorem test_illFormed_register_of_inpmux : Instr.wellFormed exampleConfig (.wreg 0x02 0x00) = false := by decide
theorem test_illFormed_register_of_ref : Instr.wellFormed exampleConfig (.wreg 0x05 0x00) = false := by decide
theorem test_illFormed_channel_12 : Instr.wellFormed exampleConfig (.wregInpmux 12 0xC) = false := by decide
theorem test_illFormed_negative_5 : Instr.wellFormed exampleConfig (.wregInpmux 3 0x5) = false := by decide
theorem test_illFormed_pattern : Instr.wellFormed exampleConfig (.wregRef 0x55) = false := by decide
theorem test_wellFormed_below_range :
    Instr.wellFormed { exampleConfig with regMin := 0x01 } (.wreg 0x00 0x00) = false := by decide
theorem test_wellFormed_bounds :
    (Instr.wellFormed exampleConfig (.wreg 0x00 0xFF) && Instr.wellFormed exampleConfig (.wreg 0x11 0xFF)
      && Instr.wellFormed exampleConfig (.wregInpmux 0 0x0) && Instr.wellFormed exampleConfig (.wregInpmux 11 0xC)
      && Instr.wellFormed exampleConfig (.wregRef 0x1A) && Instr.wellFormed exampleConfig (.wregRef 0x10)) = true := by
  decide

/-! ## Decoding: one word for every row, written out from R80 to R90, and the words' neighbours

A host word is `op` (4 bits) then `arg` (32 bits), here in binary where the operand has fields; a wire word is its bytes. -/

theorem test_decode_bringup : decodeTableWord 40 0x0FFFFFFFF = some .bringup := by decide
theorem test_decode_encodeWrite :
    decodeTableWord 40 0b0001_1111111111111111111_00010_01011100 = some (.encodeWrite 0b00010 0b01011100) := by decide
theorem test_decode_encodeWrite_register :
    decodeTableWord 40 0b0001_0000000000000000000_10001_11111111 = some (.encodeWrite 0x11 0xFF) := by decide
theorem test_decode_encodeCommand :
    decodeTableWord 40 0b0010_101010111100110111101111_00000110 = some (.encodeCommand 0x06) := by decide
theorem test_decode_setChannel :
    decodeTableWord 40 0b0011_11111111111111111111111111111111 = some (.setChannel (-1)) := by decide
theorem test_decode_setChannel_65541 :
    decodeTableWord 40 0b0011_00000000000000010000000000000101 = some (.setChannel 65541) := by decide
theorem test_decode_setReference :
    decodeTableWord 40 0b0100_0000000000000010_1000000000000000 = some (.setReference 0x00028000) := by decide
theorem test_decode_isDataReady : decodeTableWord 40 0x500000000 = some .isDataReady := by decide
theorem test_decode_readRaw : decodeTableWord 40 0x612345678 = some .readRaw := by decide
theorem test_decode_readRdata : decodeTableWord 40 0x700000000 = some .readRdata := by decide
theorem test_decode_readInt_freewheel :
    decodeTableWord 40 0b1000_1111111111111111111111111111111_0 = some (.readInt .freewheel) := by decide
theorem test_decode_readInt_rdata :
    decodeTableWord 40 0b1000_0000000000000000000000000000000_1 = some (.readInt .rdata) := by decide
theorem test_decode_readVolt_freewheel :
    decodeTableWord 40 0b1001_0000000000000000000000000000000_0 = some (.readVolt .freewheel) := by decide
theorem test_decode_readVolt_rdata :
    decodeTableWord 40 0b1001_1111111111111111111111111111111_1 = some (.readVolt .rdata) := by decide
theorem test_decode_reservedA : decodeTableWord 40 0xA00000000 = some (.reservedAB 0) := by decide
theorem test_decode_reservedB : decodeTableWord 40 0xBFFFFFFFF = some (.reservedAB 1) := by decide
theorem test_decode_reservedC : decodeTableWord 40 0xC00000000 = some (.reservedCF 0) := by decide
theorem test_decode_reservedF : decodeTableWord 40 0xF12345678 = some (.reservedCF 3) := by decide
theorem test_decode_cmdNop : decodeTableWord 8 0x00 = some .cmdNop := by decide
theorem test_decode_cmdWakeup : decodeTableWord 8 0x02 = some .cmdWakeup := by decide
theorem test_decode_cmdPowerdown : decodeTableWord 8 0x04 = some .cmdPowerdown := by decide
theorem test_decode_cmdReset : decodeTableWord 8 0x06 = some .cmdReset := by decide
theorem test_decode_cmdStart : decodeTableWord 8 0x08 = some .cmdStart := by decide
theorem test_decode_cmdStop : decodeTableWord 8 0x0A = some .cmdStop := by decide
theorem test_decode_cmdSyocal : decodeTableWord 8 0x16 = some .cmdSyocal := by decide
theorem test_decode_cmdSygcal : decodeTableWord 8 0x17 = some .cmdSygcal := by decide
theorem test_decode_cmdSfocal : decodeTableWord 8 0x19 = some .cmdSfocal := by decide
theorem test_decode_cmdRreg : decodeTableWord 8 0x20 = some .cmdRreg := by decide
theorem test_decode_wreg : decodeTableWord 24 0b010_10001_00000000_11111111 = some (.wreg 0x11 0xFF) := by decide
theorem test_decode_wreg_bit_order : decodeTableWord 24 0b010_00001_00000000_10000000 = some (.wreg 0x01 0x80) := by decide
theorem test_decode_wregInpmux : decodeTableWord 24 0b01000010_00000000_0101_1100 = some (.wregInpmux 5 0xC) := by decide
theorem test_decode_wregRef : decodeTableWord 24 0b01000101_00000000_00011010 = some (.wregRef 0x1A) := by decide
theorem test_decode_rd3 : decodeTableWord 24 0x000000 = some .rd3 := by decide
theorem test_decode_rdata4 : decodeTableWord 32 0x12000000 = some .rdata4 := by decide

theorem test_decode_rejects_byte : decodeFrame exampleConfig [0x12] = .error (.notACommand 0x12) := rfl
theorem test_decode_rejects_base : decodeFrame exampleConfig [0x40] = .error (.notACommand 0x40) := rfl
theorem test_decode_rejects_count :
    decodeFrame exampleConfig [0x42, 0x01, 0x5C] = .error (.notAThreeByteFrame 0x42 0x01 0x5C) := rfl
theorem test_decode_rejects_read_register :
    decodeFrame exampleConfig [0x22, 0x00, 0x00] = .error (.notAThreeByteFrame 0x22 0x00 0x00) := rfl
theorem test_decode_rejects_four :
    decodeFrame exampleConfig [0x12, 0x00, 0x00, 0x01] = .error (.notAFourByteFrame 0x12 0x00 0x00 0x01) := rfl
/-- log 26: with `CMD_WREG` 0x00, which R9 allows, three zero bytes are both RD3 and a WREG3 frame; with two equal codes a
byte is both rows. The model takes RD3 and the row that the table lists first. -/
theorem test_decode_ambiguous :
    decodeFrame { exampleConfig with cmdWreg := 0x00 } [0x00, 0x00, 0x00] = .ok .rd3
      ∧ decodeFrame { exampleConfig with cmdWreg := 0x00 } [0x01, 0x00, 0x00] = .ok (.wreg 0x01 0x00)
      ∧ decodeFrame { exampleConfig with cmdStop := 0x08 } [0x08] = .ok .cmdStart := ⟨rfl, rfl, rfl⟩
theorem test_decode_rejects_length : decodeFrame exampleConfig [] = .error (.noSuchLength 0) := rfl

/-! ## One step of each instruction, expected values from `spec/95_test_vectors.md` -/

/-- P1: the 24 events of a bring-up. -/
theorem test_bringup_P1 :
    outcome .bringup (unpowered [pinLow, pinLow, pinLow, pinLow]) = some (some ⟨.ok, 0⟩,
      [.line .cs true, .line .rst true, .line .sync true, .delay .powerupSettle, .line .rst false, .delay .resetLow,
       .line .rst true, .line .cs false, .busWrite [0x06], .line .cs true, .delay .postReset,
       .line .cs false, .busWrite [0x42, 0x00, 0x0C], .line .cs true,
       .line .cs false, .busWrite [0x45, 0x00, 0x1A], .line .cs true,
       .line .sync false, .delay .startLow, .line .sync true,
       .line .cs false, .busWrite [0x08], .line .cs true, .delay .interCmd]) := by decide
/-- V22 and V26: registers return to defaults; a fault of the third bus call ends in `Unpowered` after 17 events. -/
theorem test_bringup_V26 :
    left (fun t => (t.phase, t.chan, t.vref, t.refmode, t.trace.length, t.cs)) .bringup
        (setChan 7 (setRef 0x00030000 .external (ready [pinLow, pinLow, fault])))
      = some (.unpowered, 0, 0x00028000, .internal, 17, true) := by decide
theorem test_encodeWrite_V4 :
    outcome (.encodeWrite 0x11 0xFF) (ready []) = some (some ⟨.ok, 0x5100FF⟩, []) := by decide
theorem test_encodeWrite_V5 :
    outcome (.encodeWrite 0x1F 0xAA) (unpowered []) = some (some ⟨.ok, 0x5F00AA⟩, []) := by decide
theorem test_encodeCommand_V11 : outcome (.encodeCommand 0xFF) (unpowered []) = some (some ⟨.ok, 0xFF⟩, []) := by decide
theorem test_setChannel_V33 :
    left (fun t => (t.resultPort, t.chan, t.trace)) (.setChannel 11) (ready [pinLow])
      = some (some ⟨.ok, 0⟩, 11, [.line .cs false, .busWrite [0x42, 0x00, 0xBC], .line .cs true]) := by decide
theorem test_setChannel_V37 :
    left (fun t => (t.resultPort, t.chan, t.trace)) (.setChannel 65541) (ready [])
      = some (some ⟨.invalidChannel, 0⟩, 0, []) := by decide
theorem test_setReference_V143 :
    left (fun t => (t.vref, t.refmode, t.trace)) (.setReference 0x00028001) (ready [pinLow])
      = some (0x00028001, .external, [.line .cs false, .busWrite [0x45, 0x00, 0x10], .line .cs true]) := by decide
theorem test_setReference_V147 :
    left (fun t => (t.vref, t.refmode, t.trace)) (.setReference 0x00028000) (ready [pinLow])
      = some (0x00028000, .internal, [.line .cs false, .busWrite [0x45, 0x00, 0x1A], .line .cs true]) := by decide
theorem test_isDataReady_V50 :
    outcome .isDataReady (ready [pinLow]) = some (some ⟨.ok, 1⟩, [.drdySample true]) := by decide
theorem test_isDataReady_V51 :
    outcome .isDataReady (ready [pinHigh]) = some (some ⟨.ok, 0⟩, [.drdySample false]) := by decide
theorem test_readRaw_V53 :
    outcome .readRaw (ready [bytes 0x80 0x00 0x00]) = some (some ⟨.ok, 0x00000000800000⟩,
      [.line .cs false, .busXchg [0, 0, 0] [0x80, 0x00, 0x00], .line .cs true]) := by decide
theorem test_readRaw_V55 :
    outcome .readRaw (ready [fault]) = some (some ⟨.busFault, 0⟩,
      [.line .cs false, .busFault .exchange, .line .cs true]) := by decide
theorem test_readRdata_V56 :
    outcome .readRdata (ready [pinLow, pinLow, bytes 0xFF 0xFF 0xFE]) = some (some ⟨.ok, 0xFFFFFE⟩,
      [.drdySample true, .line .cs false, .busWrite [0x12], .busXchg [0, 0, 0] [0xFF, 0xFF, 0xFE], .line .cs true]) := by
  decide
theorem test_readRdata_V60 :
    outcome .readRdata (ready [pinHigh]) = some (some ⟨.dataNotReady, 0⟩, [.drdySample false]) := by decide
theorem test_readInt_V85 :
    left State.resultPort (.readInt .freewheel) (ready [bytes 0xED 0xCB 0xAA])
      = some (some ⟨.ok, 0xFFFFFFFFEDCBAA⟩) := by decide
theorem test_readInt_V86 :
    left State.resultPort (.readInt .rdata) (ready [pinLow, pinLow, bytes 0xFF 0xFF 0xFE])
      = some (some ⟨.ok, 0xFFFFFFFFFFFFFE⟩) := by decide
theorem test_readVolt_V123 :
    left State.resultPort (.readVolt .freewheel) (setRef 0xFFFFFFFF .external (ready [bytes 0x80 0x00 0x00]))
      = some (some ⟨.ok, 0x80000000800000⟩) := by decide
theorem test_readVolt_V131 :
    left State.resultPort (.readVolt .rdata) (ready [pinLow, pinLow, bytes 0x80 0x00 0x00])
      = some (some ⟨.ok, 0xFFFEC000000000⟩) := by decide
theorem test_reservedAB_V150 : outcome (.reservedAB 0) (ready []) = some (some ⟨.illegalOp, 0⟩, []) := by decide
theorem test_reservedCF_V152 : outcome (.reservedCF 0) (unpowered []) = some (some ⟨.illegalOp, 0⟩, []) := by decide

theorem test_cmdNop :
    outcome .cmdNop (ready [pinLow]) = some (some ⟨.ok, 0⟩, [.line .cs false, .busWrite [0x00], .line .cs true]) := by decide
theorem test_cmdWakeup :
    outcome .cmdWakeup (ready [pinLow]) = some (some ⟨.ok, 0⟩, [.line .cs false, .busWrite [0x02], .line .cs true]) := by decide
theorem test_cmdPowerdown :
    outcome .cmdPowerdown (ready [pinLow]) = some (some ⟨.ok, 0⟩, [.line .cs false, .busWrite [0x04], .line .cs true]) := by decide
theorem test_cmdReset :
    outcome .cmdReset (ready [pinLow]) = some (some ⟨.ok, 0⟩, [.line .cs false, .busWrite [0x06], .line .cs true]) := by decide
theorem test_cmdStart :
    outcome .cmdStart (ready [pinLow]) = some (some ⟨.ok, 0⟩, [.line .cs false, .busWrite [0x08], .line .cs true]) := by decide
theorem test_cmdStop :
    outcome .cmdStop (ready [pinLow]) = some (some ⟨.ok, 0⟩, [.line .cs false, .busWrite [0x0A], .line .cs true]) := by decide
theorem test_cmdSyocal :
    outcome .cmdSyocal (ready [pinLow]) = some (some ⟨.ok, 0⟩, [.line .cs false, .busWrite [0x16], .line .cs true]) := by decide
theorem test_cmdSygcal :
    outcome .cmdSygcal (ready [pinLow]) = some (some ⟨.ok, 0⟩, [.line .cs false, .busWrite [0x17], .line .cs true]) := by decide
theorem test_cmdSfocal :
    outcome .cmdSfocal (ready [pinLow]) = some (some ⟨.ok, 0⟩, [.line .cs false, .busWrite [0x19], .line .cs true]) := by decide
theorem test_cmdRreg :
    outcome .cmdRreg (ready [pinLow]) = some (some ⟨.ok, 0⟩, [.line .cs false, .busWrite [0x20], .line .cs true]) := by decide
theorem test_wreg :
    outcome (.wreg 0x11 0xFF) (ready [pinLow])
      = some (some ⟨.ok, 0⟩, [.line .cs false, .busWrite [0x51, 0x00, 0xFF], .line .cs true]) := by decide
theorem test_wregInpmux :
    left (fun t => (t.chan, t.trace)) (.wregInpmux 5 0xC) (ready [pinLow])
      = some (0, [.line .cs false, .busWrite [0x42, 0x00, 0x5C], .line .cs true]) := by decide
theorem test_wregRef :
    left (fun t => (t.refmode, t.trace)) (.wregRef 0x10) (ready [pinLow])
      = some (.internal, [.line .cs false, .busWrite [0x45, 0x00, 0x10], .line .cs true]) := by decide
theorem test_rd3 :
    outcome .rd3 (ready [bytes 0x12 0x34 0x56]) = some (some ⟨.ok, 0x123456⟩,
      [.line .cs false, .busXchg [0, 0, 0] [0x12, 0x34, 0x56], .line .cs true]) := by decide
theorem test_rdata4 :
    outcome .rdata4 (ready [pinHigh, pinLow]) = some (some ⟨.busFault, 0⟩,
      [.line .cs false, .busFault .write, .line .cs true]) := by decide

/-- V153: SET_CHANNEL in `Unpowered` is held: no event, no result, still presented. -/
theorem test_held_V153 :
    step { unpowered [] with pending := [.request 0x300000003] }
      = .next { unpowered [] with pending := [.request 0x300000003] } := rfl
/-- R28: the host takes the result of a SET_CHANNEL; the port is empty, the run's record is not. -/
theorem test_result_taken :
    step { ready [] with resultPort := some ⟨.ok, 0⟩, results := [some ⟨.ok, 0⟩], taking := [true] }
      = .next { ready [] with resultPort := none, results := [some ⟨.ok, 0⟩], taking := [] } := rfl
/-- R247: a request answered while an older one is held leaves that one's place empty, and its answer then fills it. -/
theorem test_request_order :
    fillSlot ⟨.ok, 3⟩ 0 (fillSlot ⟨.ok, 2⟩ 1 [some ⟨.ok, 1⟩]) = [some ⟨.ok, 1⟩, some ⟨.ok, 3⟩, some ⟨.ok, 2⟩] := by decide
/-- V153, V154: a held request is no end of the run; an idle block with nothing presented is. -/
theorem test_run_end :
    stuck { unpowered [] with pending := [.request 0x600000000] } = true
      ∧ runEnded { unpowered [] with pending := [.request 0x600000000] } = false
      ∧ runEnded (ready []) = true ∧ stuck (ready []) = false := by decide
/-- From block reset a presented word of each layer is what the next step runs. -/
theorem test_fetch_host :
    step (State.reset.withFetchWord 40 0x100001FAA)
      = exec (.encodeWrite 0x1F 0xAA) (acceptRequest [] [] (State.reset.withFetchWord 40 0x100001FAA)) := rfl
theorem test_fetch_ready_only :
    step (State.reset.withFetchWord 40 0x300000005)
      = exec (.setChannel 5) { State.reset with phase := .ready } := rfl
theorem test_fetch_wire :
    step (State.reset.withFetchWord 24 0x42005C) = exec (.wregInpmux 5 0xC) State.reset := rfl

/-! ## Witnesses: for each statement with hypotheses, a state and operands that meet them all -/

theorem witness_HostRequestsRoundTrip :
    Instr.isHost (.setChannel (-1)) = true ∧ Instr.isHost (.readVolt .rdata) = true := by decide

theorem witness_WireFramesRoundTrip :
    exampleConfig.wellFormed = true ∧ exampleConfig.framesDistinct = true
      ∧ (Instr.isHost (.wreg 0x11 0xFF) = false ∧ Instr.wellFormed exampleConfig (.wreg 0x11 0xFF) = true)
      ∧ (Instr.isHost (.wregInpmux 11 0x0) = false ∧ Instr.wellFormed exampleConfig (.wregInpmux 11 0x0) = true)
      ∧ (Instr.isHost (.wregRef 0x10) = false ∧ Instr.wellFormed exampleConfig (.wregRef 0x10) = true)
      ∧ (Instr.isHost .rdata4 = false ∧ Instr.wellFormed exampleConfig .rdata4 = true) := by decide

theorem witness_InputMuxValue : (0 : BitVec 4) ≤ 11 ∧ (11 : BitVec 4) ≤ 11 := by decide

theorem witness_EncoderProperties :
    (∃ t t', (ready []).cfg.cmdWreg = (unpowered []).cfg.cmdWreg ∧ exec (.encodeWrite 0x1F 0xAA) (ready []) = .next t
        ∧ exec (.encodeWrite 0x1F 0xAA) (unpowered []) = .next t')
      ∧ (∃ t t', exec (.encodeCommand 0x06) (ready []) = .next t ∧ exec (.encodeCommand 0x06) (unpowered []) = .next t')
      ∧ exampleConfig.wellFormed = true
      ∧ encodeWriteBytes exampleConfig 0x1F 0xAA = encodeWriteBytes exampleConfig 0x1F 0xAA :=
  ⟨⟨_, _, rfl, rfl, rfl⟩, ⟨_, _, rfl, rfl⟩, by decide, rfl⟩

theorem witness_SampleToIntRange :
    sampleToInt 0x800000 = sampleToInt 0x800000 ∧ (23 ≤ 23 ∧ 23 ≤ 31) ∧ (23 ≤ 31 ∧ 31 ≤ 31) := by decide

/-- Both ends of the range, a nonzero reference, and the ends of the range in which the sign can be turned. -/
theorem witness_VoltageExact :
    (-2 ^ 23 ≤ (0xFF800000 : BitVec 32).toInt ∧ (0xFF800000 : BitVec 32).toInt ≤ 2 ^ 23 - 1)
      ∧ (-2 ^ 23 ≤ (0x007FFFFF : BitVec 32).toInt ∧ (0x007FFFFF : BitVec 32).toInt ≤ 2 ^ 23 - 1)
      ∧ (0xFFFFFFFF : Volts) ≠ 0
      ∧ (-2 ^ 23 < (0xFF800001 : BitVec 32).toInt ∧ (0xFF800001 : BitVec 32).toInt < 2 ^ 23)
      ∧ (-2 ^ 23 < (0x007FFFFF : BitVec 32).toInt ∧ (0x007FFFFF : BitVec 32).toInt < 2 ^ 23) := by decide

theorem witness_BringupCompletes : noFault (unpowered [pinLow, pinLow, pinLow, pinLow]) 4 := by
  unfold noFault; decide

/-- A first fault at each of the four bus calls. -/
theorem witness_BringupBusFault :
    (0 < 4 ∧ noFault (unpowered [fault]) 0 ∧ (answer (unpowered [fault]) 0).busFault = true)
      ∧ (1 < 4 ∧ noFault (unpowered [pinLow, fault]) 1 ∧ (answer (unpowered [pinLow, fault]) 1).busFault = true)
      ∧ (2 < 4 ∧ noFault (unpowered [pinLow, pinLow, fault]) 2
        ∧ (answer (unpowered [pinLow, pinLow, fault]) 2).busFault = true)
      ∧ (3 < 4 ∧ noFault (unpowered [pinLow, pinLow, pinLow, fault]) 3
        ∧ (answer (unpowered [pinLow, pinLow, pinLow, fault]) 3).busFault = true) := by
  unfold noFault; decide

theorem witness_BringupPhaseWalk :
    (noFault (unpowered [pinLow, pinLow, pinLow, pinLow]) 4
        ∧ ∃ d t, bringupSequence (unpowered [pinLow, pinLow, pinLow, pinLow]) = .done d t)
      ∧ (0 < 4 ∧ noFault (unpowered [fault]) 0 ∧ (answer (unpowered [fault]) 0).busFault = true)
      ∧ (1 < 4 ∧ noFault (unpowered [pinLow, fault]) 1 ∧ (answer (unpowered [pinLow, fault]) 1).busFault = true)
      ∧ (3 < 4 ∧ noFault (unpowered [pinLow, pinLow, pinLow, fault]) 3
        ∧ (answer (unpowered [pinLow, pinLow, pinLow, fault]) 3).busFault = true) :=
  ⟨⟨witness_BringupCompletes, _, _, rfl⟩, by unfold noFault; decide⟩

/-- Channels 0 and 11 without a fault, -1 and 12, and both ends with a fault. -/
theorem witness_SetChannelOutcome :
    (0 ≤ (0 : BitVec 32).toInt ∧ (0 : BitVec 32).toInt ≤ (ready [pinLow]).cfg.chanMax.toNat)
      ∧ (0 ≤ (11 : BitVec 32).toInt ∧ (11 : BitVec 32).toInt ≤ (ready [pinLow]).cfg.chanMax.toNat)
      ∧ (answer (ready [pinLow]) 0).busFault = false
      ∧ (-1 : BitVec 32).toInt < 0
      ∧ ((ready [pinLow]).cfg.chanMax.toNat : Int) < (12 : BitVec 32).toInt
      ∧ (11 : BitVec 32).toInt ≤ (ready [fault]).cfg.chanMax.toNat
      ∧ (answer (ready [fault]) 0).busFault = true := by decide

theorem witness_RejectedChannelsExactly :
    (ready [pinLow]).cfg.chanMax = 11
      ∧ (∃ t, exec (.setChannel 11) (ready [pinLow]) = .next t ∧ t.resultPort = some ⟨.ok, 0⟩)
      ∧ ∃ t, exec (.setChannel 12) (ready [pinLow]) = .next t ∧ t.resultPort = some ⟨.invalidChannel, 0⟩ ∧ 11 < 12 :=
  ⟨rfl, ⟨_, rfl, rfl⟩, _, rfl, rfl, by decide⟩

theorem witness_SetChannelNoSuppression :
    (0 ≤ (5 : BitVec 32).toInt ∧ (5 : BitVec 32).toInt ≤ (ready [pinLow, pinLow]).cfg.chanMax.toNat)
      ∧ noFault (ready [pinLow, pinLow]) 2
      ∧ ∃ t u, exec (.setChannel 5) (ready [pinLow, pinLow]) = .next t ∧ exec (.setChannel 5) t = .next u :=
  ⟨by decide, by unfold noFault; decide, _, _, rfl, rfl⟩

/-- 2.5 V, one step above it, and a fault. -/
theorem witness_SetReferenceOutcome :
    (0x00028000 : Volts) = 0x00028000 ∧ (0x00028001 : Volts) ≠ 0x00028000
      ∧ (answer (ready [pinLow]) 0).busFault = false ∧ (answer (ready [fault]) 0).busFault = true := by decide

theorem witness_SetReferenceNoSuppression :
    (answer (ready [pinLow]) 0).busFault = false
      ∧ ∃ t, exec (.setReference 0x00030000) (ready [pinLow]) = .next t := ⟨by decide, _, rfl⟩

theorem witness_IsDataReadyOutcome : (ready [pinLow]).cfg.drdyActiveLow = true := by decide

theorem witness_ReadRawOutcome :
    (answer (ready [bytes 1 2 3]) 0).busFault = false ∧ (answer (ready [fault]) 0).busFault = true := by decide

/-- The four cases of the command-based path: not ready, ready without a fault, a fault of the write, a fault of the
exchange. -/
theorem witness_ReadRdataOutcome :
    (ready [pinHigh]).cfg.drdyActiveLow = true
      ∧ (answer (ready [pinHigh]) 0).drdyPin = true
      ∧ ((answer (ready [pinLow, pinLow, bytes 1 2 3]) 0).drdyPin = false
        ∧ (answer (ready [pinLow, pinLow, bytes 1 2 3]) 1).busFault = false
        ∧ (answer (ready [pinLow, pinLow, bytes 1 2 3]) 2).busFault = false)
      ∧ ((answer (ready [pinLow, fault]) 0).drdyPin = false ∧ (answer (ready [pinLow, fault]) 1).busFault = true)
      ∧ ((answer (ready [pinLow, pinLow, fault]) 0).drdyPin = false
        ∧ (answer (ready [pinLow, pinLow, fault]) 1).busFault = false
        ∧ (answer (ready [pinLow, pinLow, fault]) 2).busFault = true) := by decide

/-- READ_INT on each path: the cases of READ_RAW and of READ_RDATA together. -/
theorem witness_ReadIntOutcome :
    ((answer (ready [bytes 0x80 0 0]) 0).busFault = false ∧ (answer (ready [fault]) 0).busFault = true)
      ∧ ((ready [pinHigh]).cfg.drdyActiveLow = true ∧ (answer (ready [pinHigh]) 0).drdyPin = true)
      ∧ ((answer (ready [pinLow, pinLow, bytes 0x80 0 0]) 0).drdyPin = false
        ∧ (answer (ready [pinLow, pinLow, bytes 0x80 0 0]) 1).busFault = false
        ∧ (answer (ready [pinLow, pinLow, bytes 0x80 0 0]) 2).busFault = false)
      ∧ ((answer (ready [pinLow, fault]) 0).drdyPin = false ∧ (answer (ready [pinLow, fault]) 1).busFault = true)
      ∧ ((answer (ready [pinLow, pinLow, fault]) 0).drdyPin = false
        ∧ (answer (ready [pinLow, pinLow, fault]) 1).busFault = false
        ∧ (answer (ready [pinLow, pinLow, fault]) 2).busFault = true) := by decide

/-- READ_VOLT on each path, under the reference of 3.0 V. -/
theorem witness_ReadVoltOutcome :
    ((answer (setRef 0x00030000 .external (ready [bytes 0x80 0 0])) 0).busFault = false
        ∧ (answer (setRef 0x00030000 .external (ready [fault])) 0).busFault = true)
      ∧ ((ready [pinHigh]).cfg.drdyActiveLow = true ∧ (answer (ready [pinHigh]) 0).drdyPin = true)
      ∧ ((answer (ready [pinLow, pinLow, bytes 0x7F 0xFF 0xFF]) 0).drdyPin = false
        ∧ (answer (ready [pinLow, pinLow, bytes 0x7F 0xFF 0xFF]) 1).busFault = false
        ∧ (answer (ready [pinLow, pinLow, bytes 0x7F 0xFF 0xFF]) 2).busFault = false)
      ∧ ((answer (ready [pinLow, fault]) 0).drdyPin = false ∧ (answer (ready [pinLow, fault]) 1).busFault = true)
      ∧ ((answer (ready [pinLow, pinLow, fault]) 0).drdyPin = false
        ∧ (answer (ready [pinLow, pinLow, fault]) 1).busFault = false
        ∧ (answer (ready [pinLow, pinLow, fault]) 2).busFault = true) := by decide

theorem witness_ReservedCodesEndIllegal :
    0xA ≤ (RequestWord.op 0xA00000000).toNat ∧ 0xA ≤ (RequestWord.op 0xFFFFFFFFF).toNat
      ∧ (unpowered []).busy = false := by decide

theorem witness_CommandFramesSend :
    (Instr.cmdSfocal, (0x19 : Byte)) ∈ [(Instr.cmdNop, (ready [pinLow]).cfg.cmdNop),
        (.cmdWakeup, (ready [pinLow]).cfg.cmdWakeup), (.cmdPowerdown, (ready [pinLow]).cfg.cmdPowerdown),
        (.cmdReset, (ready [pinLow]).cfg.cmdReset), (.cmdStart, (ready [pinLow]).cfg.cmdStart),
        (.cmdStop, (ready [pinLow]).cfg.cmdStop), (.cmdSyocal, (ready [pinLow]).cfg.cmdSyocal),
        (.cmdSygcal, (ready [pinLow]).cfg.cmdSygcal), (.cmdSfocal, (ready [pinLow]).cfg.cmdSfocal),
        (.cmdRreg, (ready [pinLow]).cfg.cmdRreg)]
      ∧ (answer (ready [pinLow]) 0).busFault = false ∧ (answer (ready [fault]) 0).busFault = true := by decide

theorem witness_RegisterFramesSend :
    (answer (ready [pinLow]) 0).busFault = false ∧ (answer (ready [fault]) 0).busFault = true := by decide

theorem witness_SampleFramesRead :
    (answer (ready [bytes 1 2 3]) 0).busFault = false ∧ (answer (ready [fault]) 0).busFault = true
      ∧ ((answer (ready [pinLow, bytes 1 2 3]) 0).busFault = false
        ∧ (answer (ready [pinLow, bytes 1 2 3]) 1).busFault = false)
      ∧ ((answer (ready [pinLow, fault]) 0).busFault = false ∧ (answer (ready [pinLow, fault]) 1).busFault = true) := by
  decide

theorem witness_StatusTable : Instr.isHost (.setChannel 0) = true ∧ Instr.isHost (.readInt .rdata) = true := by decide

theorem witness_ErrorDataZero :
    ∃ t r, exec (.setChannel 12) (ready []) = .next t ∧ t.resultPort = some r ∧ r.status ≠ .ok :=
  ⟨_, _, rfl, rfl, by decide⟩

theorem witness_ErrorsArePrecise :
    (∃ t r, exec (.setChannel 12) (ready []) = .next t ∧ t.resultPort = some r ∧ r.status = .invalidChannel)
      ∧ (∃ t r, exec (.reservedAB 1) (ready []) = .next t ∧ t.resultPort = some r ∧ r.status = .illegalOp)
      ∧ ∃ t r, exec (.readInt .rdata) (ready [pinHigh]) = .next t ∧ t.resultPort = some r ∧ r.status = .dataNotReady :=
  ⟨⟨_, _, rfl, rfl, rfl⟩, ⟨_, _, rfl, rfl, rfl⟩, _, _, rfl, rfl, rfl⟩

theorem witness_BusFaultLeavesLinesHigh :
    (ready [pinLow, pinLow, fault]).rst = true ∧ (ready [pinLow, pinLow, fault]).sync = true
      ∧ ∃ t d, exec .bringup (ready [pinLow, pinLow, fault]) = .next t ∧ t.resultPort = some ⟨.busFault, d⟩ :=
  ⟨rfl, rfl, _, _, rfl, rfl⟩

theorem witness_RegisterWriters :
    (∃ t, exec .readRaw (ready [pinLow]) = .next t) ∧ Instr.readRaw ≠ .bringup ∧ (∀ ch, Instr.readRaw ≠ .setChannel ch)
      ∧ ∀ v, Instr.readRaw ≠ .setReference v :=
  ⟨⟨_, rfl⟩, by decide, by simp, by simp⟩

/-- Two states that differ in `CHAN` and in the phase. -/
theorem witness_OutcomeDependsOnVrefAndEnvironment :
    (ready [bytes 1 2 3]).cfg = (setChan 7 (unpowered [bytes 1 2 3])).cfg
      ∧ (ready [bytes 1 2 3]).vref = (setChan 7 (unpowered [bytes 1 2 3])).vref
      ∧ (ready [bytes 1 2 3]).env = (setChan 7 (unpowered [bytes 1 2 3])).env
      ∧ (ready [bytes 1 2 3]).asked = (setChan 7 (unpowered [bytes 1 2 3])).asked
      ∧ ∃ t t', exec (.readVolt .freewheel) (ready [bytes 1 2 3]) = .next t
        ∧ exec (.readVolt .freewheel) (setChan 7 (unpowered [bytes 1 2 3])) = .next t' :=
  ⟨rfl, rfl, rfl, rfl, _, _, rfl, rfl⟩

theorem witness_FreewheelIgnoresDataReady : (ready [pinHigh, pinLow]).env = pinHigh :: [pinLow] := rfl

theorem witness_ReadIntSignExtendsReadRaw :
    ∃ t u a b, exec .readRaw (ready [bytes 0x80 0 0]) = .next t
      ∧ exec (.readInt .freewheel) (ready [bytes 0x80 0 0]) = .next u
      ∧ t.resultPort = some ⟨.ok, a⟩ ∧ u.resultPort = some ⟨.ok, b⟩ := ⟨_, _, _, _, rfl, rfl, rfl, rfl⟩

/-- Waiting, and running an operation. -/
theorem witness_TraceOnlyGrows :
    (∃ t, step (unpowered []) = .next t)
      ∧ ∃ t, step ((ready [pinLow]).withFetchWord 40 0x300000005) = .next t := ⟨⟨_, rfl⟩, _, rfl⟩

/-- A held SET_CHANNEL, then a BRINGUP, then an ENCODE_COMMAND. -/
theorem witness_StepRunsAcceptedRequest :
    let s : State :=
      { unpowered [] with pending := [.request 0x300000003, .request 0x000000000, .request 0x200000006] }
    s.pending = [.request 0x300000003] ++ .request 0x000000000 :: [.request 0x200000006]
      ∧ (∀ d ∈ [Code.request 0x300000003], accepts s d = false)
      ∧ accepts s (.request 0x000000000) = true ∧ decode s.cfg (.request 0x000000000) = .ok .bringup :=
  ⟨rfl, by decide, by decide, rfl⟩

theorem witness_AcceptanceTable :
    let s : State := { unpowered [] with pending := [.request 0x600000000] }
    Code.request 0x600000000 ∈ s.pending ∧ accepts s (.request 0x600000000) = false ∧ (∃ t, step s = .next t)
      ∧ ∀ c ∈ s.pending, accepts s c = false :=
  ⟨by decide, by decide, ⟨_, rfl⟩, by decide⟩

theorem witness_HeldRequestRunsAfterBringup :
    let s : State :=
      { unpowered [pinLow, pinLow, pinLow, pinLow] with pending := [.request 0x300000003, .request 0x000000000] }
    s.busy = false ∧ s.phase = .unpowered ∧ s.pending = [.request 0x300000003, .request 0x000000000]
      ∧ readyOnly (decodeRequest 0x300000003) = true ∧ RequestWord.op 0x000000000 = 0x0 ∧ noFault s 4 :=
  ⟨rfl, rfl, rfl, by decide, by decide, by unfold noFault; decide⟩

/-- The empty frame, one of two bytes, one of five. -/
theorem witness_FrameOfNoFormatStops :
    (ready []).busy = false
      ∧ { ready [] with pending := [.frame [0x06, 0x06]] }.pending = .frame [0x06, 0x06] :: []
      ∧ (([] : List Byte).length ≠ 1 ∧ ([] : List Byte).length ≠ 3 ∧ ([] : List Byte).length ≠ 4)
      ∧ (([0x06, 0x06] : List Byte).length ≠ 1 ∧ ([0x06, 0x06] : List Byte).length ≠ 3
        ∧ ([0x06, 0x06] : List Byte).length ≠ 4)
      ∧ (([0, 0, 0, 0, 0] : List Byte).length ≠ 1 ∧ ([0, 0, 0, 0, 0] : List Byte).length ≠ 3
        ∧ ([0, 0, 0, 0, 0] : List Byte).length ≠ 4) := by decide

/-- A legal state with a request presented that its step runs. -/
theorem witness_StepKeepsRegistersLegal :
    ConfigLegal ((ready [pinLow]).withFetchWord 40 0x30000000B).cfg
      ∧ RegistersLegal ((ready [pinLow]).withFetchWord 40 0x30000000B)
      ∧ ∃ t, step ((ready [pinLow]).withFetchWord 40 0x30000000B) = .next t :=
  ⟨test_exampleConfig_legal.1, ⟨by decide, by decide, by decide, rfl, rfl, rfl, rfl, rfl, rfl⟩, _, rfl⟩

theorem witness_StepKeepsLineDiscipline :
    RegistersLegal ((ready [pinLow]).withFetchWord 40 0x000000000)
      ∧ LinesFollowTrace ((ready [pinLow]).withFetchWord 40 0x000000000)
      ∧ ∃ t, step ((ready [pinLow]).withFetchWord 40 0x000000000) = .next t :=
  ⟨⟨by decide, by decide, by decide, rfl, rfl, rfl, rfl, rfl, rfl⟩, ⟨rfl, rfl⟩, _, rfl⟩

theorem witness_StepKeepsFramesLegal :
    framesLegal ((ready [pinLow]).withFetchWord 32 0x12000000).cfg none
        ((ready [pinLow]).withFetchWord 32 0x12000000).trace = true
      ∧ ∃ t, step ((ready [pinLow]).withFetchWord 32 0x12000000) = .next t := ⟨rfl, _, rfl⟩

/-- An unpowered block with some requests presented. -/
def presented (requests : List Code) : State := { unpowered [] with pending := requests }

/-- A host that takes the result of a finished operation, and one that does not yet, with a request held. -/
theorem witness_ResultNotKeptOnceTaken :
    ({ ready [] with resultPort := some ⟨.ok, 1⟩, taking := [true] }.taking = true :: []
        ∧ ∀ c ∈ { ready [] with resultPort := some ⟨.ok, 1⟩, taking := [true] }.pending, accepts (ready []) c = false)
      ∧ { presented [.request 0x300000003] with taking := [false, true] }.taking = false :: [true]
      ∧ ∀ c ∈ (presented [.request 0x300000003]).pending, accepts (presented [.request 0x300000003]) c = false := by
  decide

/-- A request held before the one that runs, and none. -/
theorem witness_ResultsInRequestOrder :
    ((presented [.request 0x300000003, .request 0x200000006]).pending
          = [.request 0x300000003] ++ .request 0x200000006 :: []
        ∧ (∀ d ∈ [Code.request 0x300000003], accepts (presented [.request 0x300000003, .request 0x200000006]) d = false)
        ∧ accepts (presented [.request 0x300000003, .request 0x200000006]) (.request 0x200000006) = true
        ∧ decode exampleConfig (.request 0x200000006) = .ok (.encodeCommand 0x06)
        ∧ ∃ t, step (presented [.request 0x300000003, .request 0x200000006]) = .next t)
      ∧ (presented [.request 0x200000006]).pending = [] ++ .request 0x200000006 :: []
      ∧ (∀ d ∈ ([] : List Code), accepts (presented [.request 0x200000006]) d = false)
      ∧ accepts (presented [.request 0x200000006]) (.request 0x200000006) = true
      ∧ ∃ t, step (presented [.request 0x200000006]) = .next t :=
  ⟨⟨rfl, by decide, by decide, rfl, _, rfl⟩, rfl, by decide, by decide, _, rfl⟩

/-- A run that has ended, and a stuck block (V154). -/
theorem witness_RunEndedOrStuck :
    (runEnded (ready []) = true ∧ (ready []).busy = false ∧ (∀ c ∈ (ready []).pending, accepts (ready []) c = false)
        ∧ ∃ t, step (ready []) = .next t)
      ∧ (stuck (presented [.request 0x600000000]) = true ∧ (presented [.request 0x600000000]).busy = false
        ∧ (∀ c ∈ (presented [.request 0x600000000]).pending, accepts (presented [.request 0x600000000]) c = false)
        ∧ ∃ t, step (presented [.request 0x600000000]) = .next t)
      ∧ RequestWord.op 0x000000000 = 0x0 :=
  ⟨⟨rfl, rfl, by decide, _, rfl⟩, ⟨by decide, rfl, by decide, _, rfl⟩, by decide⟩

/-- The parameter set of the example, the ones the reset has. -/
theorem witness_resetConfig :
    Config.default.wellFormed = true ∧ Config.default.hasM1Values = true ∧ Config.default.framesDistinct = true :=
  ⟨Config.default_wellFormed, Config.default_hasM1Values, Config.default_framesDistinct⟩

end Sys2Proof.Tests
end

section
/-! SUPPORT. The wire rows of the opcode table decode to themselves: a one-byte frame by finding its code among the ten CMD1
codes, a register write by taking its first byte apart again. -/

namespace Sys2Proof

/-! ### What the hypotheses on the parameters give -/

/-- R9 item a: `CMD_WREG` leaves the five bits of the register free. -/
theorem Config.wellFormed_cmdWreg {c : Config} (h : c.wellFormed = true) : c.cmdWreg &&& 0x1F = 0 := by
  simp only [Config.wellFormed, Bool.and_eq_true, beq_iff_eq] at h
  tauto

/-- R9 item b: the two registers with rows of their own differ. -/
theorem Config.wellFormed_regs_ne {c : Config} (h : c.wellFormed = true) : c.regInpmux ≠ c.regRef := by
  simp only [Config.wellFormed, Bool.and_eq_true, bne_iff_ne] at h
  tauto

theorem Config.framesDistinct_iff (c : Config) :
    c.framesDistinct = true ↔ c.cmd1Codes.Nodup ∧ c.dummy &&& 0xE0 ≠ c.cmdWreg &&& 0xE0 := by
  simp [Config.framesDistinct]

/-! ### One-byte frames -/

/-- The CMD1 rows of the opcode table (R85): the code of each, in the table's order. -/
def commandRows (c : Config) : List (Byte × Instr) :=
  [(c.cmdNop, .cmdNop), (c.cmdWakeup, .cmdWakeup), (c.cmdPowerdown, .cmdPowerdown), (c.cmdReset, .cmdReset),
    (c.cmdStart, .cmdStart), (c.cmdStop, .cmdStop), (c.cmdSyocal, .cmdSyocal), (c.cmdSygcal, .cmdSygcal),
    (c.cmdSfocal, .cmdSfocal), (c.cmdRreg, .cmdRreg)]

/-- The first row of a list that has the code `b`. -/
def decodeAmong (b : Byte) : List (Byte × Instr) → Except DecodeError Instr
  | [] => .error (.notACommand b)
  | (code, i) :: rows => if b = code then .ok i else decodeAmong b rows

/-- `decodeCommand` is the search through the CMD1 rows. -/
theorem decodeCommand_eq_decodeAmong (c : Config) (b : Byte) : decodeCommand c b = decodeAmong b (commandRows c) := rfl

/-- Where the codes of the rows differ, the search for the code of a row finds that row. -/
theorem decodeAmong_of_mem {rows : List (Byte × Instr)} {b : Byte} {i : Instr} (hd : (rows.map Prod.fst).Nodup)
    (hm : (b, i) ∈ rows) : decodeAmong b rows = .ok i := by
  induction rows with
  | nil => cases hm
  | cons row rows ih =>
    obtain ⟨hrow, hrows⟩ := List.nodup_cons.mp hd
    rcases List.mem_cons.mp hm with rfl | hm
    · exact if_pos rfl
    · have hne : b ≠ row.1 := fun he => hrow (he ▸ List.mem_map_of_mem hm)
      rw [decodeAmong, if_neg hne]
      exact ih hrows hm

/-- Where the frames are distinct, every CMD1 row is decoded from its own code. -/
theorem decodeCommand_of_mem {c : Config} {b : Byte} {i : Instr} (hd : c.framesDistinct = true)
    (hm : (b, i) ∈ commandRows c) : decodeCommand c b = .ok i := by
  obtain ⟨hcodes, -⟩ := c.framesDistinct_iff.mp hd
  rw [decodeCommand_eq_decodeAmong]
  exact decodeAmong_of_mem hcodes hm

/-! ### Register writes -/

/-- The high bits of a register write's first byte are those of `CMD_WREG` (R86). -/
theorem wregByte_high (c : Config) (r : RegAddr) : (wregByte c r).extractLsb' 5 3 = c.cmdWreg.extractLsb' 5 3 := by
  have hr : (r.setWidth 8).extractLsb' 5 3 = 0 := by
    ext i hi
    simp
  rw [wregByte, BitVec.extractLsb'_or, hr]
  exact BitVec.or_zero

/-- The low bits of a register write's first byte are the register, `CMD_WREG` having none there (R9 item a, R86). -/
theorem wregByte_register {c : Config} (hw : c.wellFormed = true) (r : RegAddr) :
    (wregByte c r).extractLsb' 0 5 = r := by
  have hbase : c.cmdWreg.extractLsb' 0 5 = 0 := by
    have h := congrArg (BitVec.extractLsb' 0 5) (Config.wellFormed_cmdWreg hw)
    rw [BitVec.extractLsb'_and] at h
    exact (BitVec.and_allOnes (x := c.cmdWreg.extractLsb' 0 5)).symm.trans h
  have hr : (r.setWidth 8).extractLsb' 0 5 = r := by
    ext i hi
    simp [show i < 8 by omega, BitVec.getLsbD_eq_getElem hi]
  rw [wregByte, BitVec.extractLsb'_or, hbase, hr]
  exact BitVec.zero_or

/-- A register write cannot be taken for RD3 where the frames are distinct. -/
theorem wregByte_ne_dummy {c : Config} (hd : c.framesDistinct = true) (r : RegAddr) : wregByte c r ≠ c.dummy := by
  intro he
  obtain ⟨-, hne⟩ := c.framesDistinct_iff.mp hd
  have hmask : ∀ r : RegAddr, r.setWidth 8 &&& (0xE0 : Byte) = 0 := by decide
  have : (c.cmdWreg ||| r.setWidth 8) &&& 0xE0 = c.cmdWreg &&& 0xE0 := by
    rw [BitVec.and_comm, BitVec.and_or_distrib_left, BitVec.and_comm, BitVec.and_comm _ (r.setWidth 8), hmask]
    exact BitVec.or_zero
  exact hne (he ▸ this)

/-- The high nibble of an input-multiplexer value is the channel (R90). -/
theorem inpmuxWith_high (low ch : BitVec 4) : (inpmuxWith low ch).extractLsb' 4 4 = ch := by
  ext i hi
  simp [inpmuxWith, show 4 + i < 8 by omega, BitVec.getLsbD_eq_getElem hi]

/-- The low nibble of an input-multiplexer value is the one given (R90). -/
theorem inpmuxWith_low (low ch : BitVec 4) : (inpmuxWith low ch).extractLsb' 0 4 = low := by
  ext i hi
  simp [inpmuxWith, hi, show i < 8 by omega]

/-- A register write is decoded as the write of that register (R86), under the parameters that tell it from RD3. -/
theorem decodeFrame_encodeWriteBytes {c : Config} (hw : c.wellFormed = true) (hd : c.framesDistinct = true)
    (r : RegAddr) (v : Byte) : decodeFrame c (encodeWriteBytes c r v) = .ok (registerWriteInstr c r v) := by
  have hrd3 : [wregByte c r, 0x00, v] ≠ dummyBytes c := fun he => wregByte_ne_dummy hd r (List.cons.inj he).1
  rw [encodeWriteBytes, decodeFrame_three, decodeThree, if_neg hrd3, if_pos ⟨wregByte_high c r, rfl⟩,
    wregByte_register hw]

theorem registerWriteInstr_regInpmux (c : Config) (v : Byte) :
    registerWriteInstr c c.regInpmux v = .wregInpmux (v.extractLsb' 4 4) (v.extractLsb' 0 4) := if_pos rfl

theorem registerWriteInstr_regRef {c : Config} (hw : c.wellFormed = true) (v : Byte) :
    registerWriteInstr c c.regRef v = .wregRef v := by
  rw [registerWriteInstr, if_neg (Config.wellFormed_regs_ne hw).symm, if_pos rfl]

theorem registerWriteInstr_other {c : Config} {r : RegAddr} (hi : r ≠ c.regInpmux) (hr : r ≠ c.regRef) (v : Byte) :
    registerWriteInstr c r v = .wreg r v := by
  rw [registerWriteInstr, if_neg hi, if_neg hr]

/-! ### Sample reads -/

theorem decodeFrame_dummyBytes (c : Config) : decodeFrame c (dummyBytes c) = .ok .rd3 := if_pos rfl

theorem decodeFrame_rdata (c : Config) : decodeFrame c (c.cmdRdata :: dummyBytes c) = .ok .rdata4 := if_pos ⟨rfl, rfl⟩

/-- Settles O3, row by row: a CMD1 frame is found among the ten codes, a WREG3 frame gives its register and value back, and
the two sample reads are compared whole. -/
theorem wireFramesRoundTrip : Obligations.WireFramesRoundTrip := by
  intro c i hw hd hwire hi
  cases i with
  | cmdNop | cmdWakeup | cmdPowerdown | cmdReset | cmdStart | cmdStop | cmdSyocal | cmdSygcal | cmdSfocal | cmdRreg =>
    exact decodeCommand_of_mem hd (by simp [commandRows])
  | wreg r v =>
    simp only [Instr.wellFormed, Bool.and_eq_true, bne_iff_ne] at hi
    obtain ⟨⟨-, hinp⟩, href⟩ := hi
    rw [encode, decode_frame, decodeFrame_encodeWriteBytes hw hd, registerWriteInstr_other hinp href]
  | wregInpmux ch neg =>
    rw [encode, decode_frame, decodeFrame_encodeWriteBytes hw hd, registerWriteInstr_regInpmux, inpmuxWith_high,
      inpmuxWith_low]
  | wregRef p => rw [encode, decode_frame, decodeFrame_encodeWriteBytes hw hd, registerWriteInstr_regRef hw]
  | rd3 => exact decodeFrame_dummyBytes c
  | rdata4 => exact decodeFrame_rdata c
  | _ => cases hwire

end Sys2Proof
end

section
/-! SUPPORT. Operations run symbolically: the state in the middle of one, written as the events so far, the questions so far
and the registers and lines so far; then what each transaction and each part of BRINGUP makes of such a state. -/

namespace Sys2Proof.Machine

variable (s : State) (ev : List Event) (q : Nat)

/-- `s` in the middle of an operation (R26) that has emitted `ev` and put `q` questions to the environment; the registers and
lines it has written so far are written in `s`. -/
def underway (ev : List Event) (q : Nat) (s : State) : State :=
  { s with
    trace := s.trace ++ ev
    env := s.env.drop q
    asked := s.asked + q
    position := ev.length
    busy := true }

/-- `s` with the level of one line register set and no event: what `driveLine` does but for the event (R27). -/
def setLine (l : LineName) (v : Bool) (s : State) : State :=
  match l with
  | .cs => { s with cs := v }
  | .rst => { s with rst := v }
  | .sync => { s with sync := v }

/-- `s` with chip-select low, as a frame that a bus fault cuts short leaves it until it is closed (R216). -/
def csLow (s : State) : State := { s with cs := false }

@[simp] theorem setLine_cs_true : setLine .cs true s = csHigh s := rfl
@[simp] theorem setLine_cs_false : setLine .cs false s = csLow s := rfl
@[simp] theorem csHigh_csLow : csHigh (csLow s) = csHigh s := rfl
@[simp] theorem csHigh_csHigh : csHigh (csHigh s) = csHigh s := rfl
@[simp] theorem csLow_csHigh : csLow (csHigh s) = csLow s := rfl
@[simp] theorem csLow_cs : (csLow s).cs = false := rfl
@[simp] theorem csLow_cfg : (csLow s).cfg = s.cfg := rfl
@[simp] theorem answer_csLow (k : Nat) : answer (csLow s) k = answer s k := rfl
@[simp] theorem setLine_cfg (l : LineName) (v : Bool) : (setLine l v s).cfg = s.cfg := by
  cases l with
  | cs | rst | sync => rfl
@[simp] theorem answer_setLine (l : LineName) (v : Bool) (k : Nat) : answer (setLine l v s) k = answer s k := by
  cases l with
  | cs | rst | sync => rfl
@[simp] theorem bringupDefaults_cfg : (bringupDefaults s).cfg = s.cfg := rfl
@[simp] theorem answer_bringupDefaults (k : Nat) : answer (bringupDefaults s) k = answer s k := rfl

/-! From its hard reset on BRINGUP writes only `PHASE` and the lines, and it leaves the lines high (R130, R137). -/

theorem bringupRegisters_eq (p : Phase) : bringupRegisters p s = linesHigh (setPhase p (bringupDefaults s)) := rfl
@[simp] theorem bringupRegisters_cfg (p : Phase) : (bringupRegisters p s).cfg = s.cfg := rfl
@[simp] theorem answer_bringupRegisters (p : Phase) (k : Nat) : answer (bringupRegisters p s) k = answer s k := rfl
@[simp] theorem setPhase_bringupRegisters (p p' : Phase) :
    setPhase p' (bringupRegisters p s) = bringupRegisters p' s := rfl
@[simp] theorem csHigh_bringupRegisters (p : Phase) : csHigh (bringupRegisters p s) = bringupRegisters p s := rfl
@[simp] theorem setLine_bringupRegisters (l : LineName) (p : Phase) :
    setLine l true (bringupRegisters p s) = bringupRegisters p s := by
  cases l with
  | cs | rst | sync => rfl

/-! What an operation writes in a register or a line stands beside what it does to the trace and the ports. -/

@[simp] theorem afterOperation_csHigh (r : Result) :
    afterOperation ev q r (csHigh s) = csHigh (afterOperation ev q r s) := rfl
@[simp] theorem afterOperation_setPhase (r : Result) (p : Phase) :
    afterOperation ev q r (setPhase p s) = setPhase p (afterOperation ev q r s) := rfl
@[simp] theorem afterOperation_setChan (r : Result) (v : BitVec 4) :
    afterOperation ev q r (setChan v s) = setChan v (afterOperation ev q r s) := rfl
@[simp] theorem afterOperation_setRef (r : Result) (v : Volts) (m : RefMode) :
    afterOperation ev q r (setRef v m s) = setRef v m (afterOperation ev q r s) := rfl
@[simp] theorem afterOperation_bringupRegisters (r : Result) (p : Phase) :
    afterOperation ev q r (bringupRegisters p s) = bringupRegisters p (afterOperation ev q r s) := rfl

@[simp] theorem underway_cfg : (underway ev q s).cfg = s.cfg := rfl
@[simp] theorem underway_vref : (underway ev q s).vref = s.vref := rfl
@[simp] theorem underway_cs : (underway ev q s).cs = s.cs := rfl

@[simp] theorem answer_underway (k : Nat) : answer (underway ev q s) k = answer s (q + k) := by
  simp [answer, underway, Nat.add_assoc]

/-! ### The primitives -/

theorem startOperation_eq_underway : startOperation s = underway [] 0 s := by simp [startOperation, underway]

@[simp] theorem emit_underway (e : Event) : emit e (underway ev q s) = underway (ev ++ [e]) q s := by
  simp [emit, underway]

@[simp] theorem delay_underway (p : DelayName) : delay p (underway ev q s) = underway (ev ++ [.delay p]) q s :=
  emit_underway s ev q _

@[simp] theorem consume_underway (n : Nat) : consume n (underway ev q s) = underway ev (q + n) s := by
  simp [consume, underway, Nat.add_assoc]

@[simp] theorem driveLine_underway (l : LineName) (v : Bool) :
    driveLine l v (underway ev q s) = underway (ev ++ [.line l v]) q (setLine l v s) := by
  cases l with
  | cs | rst | sync => simp [driveLine, setLine, emit, underway]

@[simp] theorem setPhase_underway (p : Phase) : setPhase p (underway ev q s) = underway ev q (setPhase p s) := rfl
@[simp] theorem setChan_underway (v : BitVec 4) : setChan v (underway ev q s) = underway ev q (setChan v s) := rfl
@[simp] theorem setRef_underway (v : Volts) (m : RefMode) :
    setRef v m (underway ev q s) = underway ev q (setRef v m s) := rfl

@[simp] theorem present_underway (r : Result) : present r (underway ev q s) = afterOperation ev q r s := rfl

/-! ### The transactions, with the questions still to come counted from `s` -/

theorem sendCmd_underway_ok (code : Byte) (h : (answer s q).busFault = false) :
    sendCmd code (underway ev q s) = .done () (underway (ev ++ writeEvents [code]) (q + 1) (csHigh s)) := by
  rw [sendCmd_ok _ _ (by simpa using h)]
  simp [writeEvents]

theorem sendCmd_underway_fault (code : Byte) (h : (answer s q).busFault = true) :
    sendCmd code (underway ev q s)
      = .raised .busFault (underway (ev ++ [.line .cs false, .busFault .write]) (q + 1) (csLow s)) := by
  rw [sendCmd_fault _ _ (by simpa using h)]
  simp

theorem writeReg_underway_ok (r : RegAddr) (v : Byte) (h : (answer s q).busFault = false) :
    writeReg r v (underway ev q s)
      = .done () (underway (ev ++ writeEvents (encodeWriteBytes s.cfg r v)) (q + 1) (csHigh s)) := by
  rw [writeReg_ok _ _ _ (by simpa using h)]
  simp [writeEvents]

theorem writeReg_underway_fault (r : RegAddr) (v : Byte) (h : (answer s q).busFault = true) :
    writeReg r v (underway ev q s)
      = .raised .busFault (underway (ev ++ [.line .cs false, .busFault .write]) (q + 1) (csLow s)) := by
  rw [writeReg_fault _ _ _ (by simpa using h)]
  simp

theorem rawFreewheel_underway_ok (h : (answer s q).busFault = false) :
    rawFreewheel (underway ev q s)
      = .done (misoSample (answer s q)) (underway (ev ++ freewheelEvents s.cfg (answer s q)) (q + 1) (csHigh s)) := by
  rw [rawFreewheel_ok _ (by simpa using h)]
  simp [freewheelEvents]

theorem rawFreewheel_underway_fault (h : (answer s q).busFault = true) :
    rawFreewheel (underway ev q s)
      = .raised .busFault (underway (ev ++ [.line .cs false, .busFault .exchange]) (q + 1) (csLow s)) := by
  rw [rawFreewheel_fault _ (by simpa using h)]
  simp

theorem rdataFrame_underway_ok (h0 : (answer s q).busFault = false) (h1 : (answer s (q + 1)).busFault = false) :
    rdataFrame (underway ev q s)
      = .done (misoSample (answer s (q + 1)))
          (underway (ev ++ rdataEvents s.cfg (answer s (q + 1))) (q + 1 + 1) (csHigh s)) := by
  rw [rdataFrame_ok _ (by simpa using h0) (by simpa using h1)]
  simp [rdataEvents]

theorem rdataFrame_underway_write_fault (h0 : (answer s q).busFault = true) :
    rdataFrame (underway ev q s)
      = .raised .busFault (underway (ev ++ [.line .cs false, .busFault .write]) (q + 1) (csLow s)) := by
  rw [rdataFrame_write_fault _ (by simpa using h0)]
  simp

theorem rdataFrame_underway_exchange_fault (h0 : (answer s q).busFault = false)
    (h1 : (answer s (q + 1)).busFault = true) :
    rdataFrame (underway ev q s)
      = .raised .busFault (underway (ev ++ [.line .cs false, .busWrite [s.cfg.cmdRdata], .busFault .exchange]) (q + 1 + 1)
          (csLow s)) := by
  rw [rdataFrame_exchange_fault _ (by simpa using h0) (by simpa using h1)]
  simp

theorem sampleDrdy_underway :
    sampleDrdy (underway ev q s)
      = .done (drdyAsserted s.cfg (answer s q))
          (underway (ev ++ [.drdySample (drdyAsserted s.cfg (answer s q))]) (q + 1) s) := by
  simp [sampleDrdy]

theorem rawRdata_underway_ready (h : drdyAsserted s.cfg (answer s q) = true) :
    rawRdata (underway ev q s) = rdataFrame (underway (ev ++ [.drdySample true]) (q + 1) s) := by
  rw [rawRdata_ready _ (by simpa using h)]
  simp

theorem rawRdata_underway_not_ready (h : drdyAsserted s.cfg (answer s q) = false) :
    rawRdata (underway ev q s) = .raised .dataNotReady (underway (ev ++ [.drdySample false]) (q + 1) s) := by
  rw [rawRdata_not_ready _ (by simpa using h)]
  simp

/-- R216 item 2: a frame that a bus fault cut short is closed. -/
@[simp] theorem closeFrame_underway_csLow :
    closeFrame (underway ev q (csLow s)) = underway (ev ++ [.line .cs true]) q (csHigh s) := by
  rw [closeFrame_open _ (by simp), driveLine_underway, setLine_cs_true, csHigh_csLow]

/-! ### The parts of BRINGUP -/

theorem bringupDefaults_underway : bringupDefaults (underway ev q s) = underway ev q (bringupDefaults s) := rfl

theorem bringupHardReset_underway :
    bringupHardReset (underway ev q s)
      = underway (ev ++ bringupEvents1) q (linesHigh (setPhase .hardReset s)) := by
  simp only [bringupHardReset, setPhase_underway, driveLine_underway, delay_underway, List.append_assoc]
  rfl

theorem bringupHardStart_underway :
    bringupHardStart (underway ev q s)
      = underway (ev ++ bringupEvents5) q (setLine .sync true (setPhase .hardStart s)) := by
  simp only [bringupHardStart, setPhase_underway, driveLine_underway, delay_underway, List.append_assoc]
  rfl

theorem bringupSoftReset_underway_ok (h : (answer s q).busFault = false) :
    bringupSoftReset (underway ev q s)
      = .done () (underway (ev ++ bringupEvents2 s.cfg) (q + 1) (csHigh (setPhase .softReset s))) := by
  simp [bringupSoftReset, sendCmd_underway_ok, h, bringupEvents2]

theorem bringupSoftReset_underway_fault (h : (answer s q).busFault = true) :
    bringupSoftReset (underway ev q s)
      = .raised .busFault (underway (ev ++ [.line .cs false, .busFault .write]) (q + 1)
          (csLow (setPhase .softReset s))) := by
  simp [bringupSoftReset, sendCmd_underway_fault, h]

theorem bringupConfiguring_underway_ok (h0 : (answer s q).busFault = false) (h1 : (answer s (q + 1)).busFault = false) :
    bringupConfiguring (underway ev q s)
      = .done () (underway (ev ++ bringupEvents3 s.cfg ++ bringupEvents4 s.cfg) (q + 1 + 1)
          (csHigh (setPhase .configuring s))) := by
  simp [bringupConfiguring, writeReg_underway_ok, h0, h1, bringupEvents3, bringupEvents4, encodeWriteBytes, wregByte]

theorem bringupConfiguring_underway_fault_first (h0 : (answer s q).busFault = true) :
    bringupConfiguring (underway ev q s)
      = .raised .busFault (underway (ev ++ [.line .cs false, .busFault .write]) (q + 1)
          (csLow (setPhase .configuring s))) := by
  simp [bringupConfiguring, writeReg_underway_fault, h0]

theorem bringupConfiguring_underway_fault_second (h0 : (answer s q).busFault = false)
    (h1 : (answer s (q + 1)).busFault = true) :
    bringupConfiguring (underway ev q s)
      = .raised .busFault (underway (ev ++ bringupEvents3 s.cfg ++ [.line .cs false, .busFault .write]) (q + 1 + 1)
          (csLow (setPhase .configuring s))) := by
  simp [bringupConfiguring, writeReg_underway_ok, writeReg_underway_fault, h0, h1, bringupEvents3, encodeWriteBytes,
    wregByte]

theorem bringupSoftStart_underway_ok (h : (answer s q).busFault = false) :
    bringupSoftStart (underway ev q s)
      = .done () (underway (ev ++ bringupEvents6 s.cfg) (q + 1) (csHigh (setPhase .softStart s))) := by
  simp [bringupSoftStart, sendCmd_underway_ok, h, bringupEvents6]

theorem bringupSoftStart_underway_fault (h : (answer s q).busFault = true) :
    bringupSoftStart (underway ev q s)
      = .raised .busFault (underway (ev ++ [.line .cs false, .busFault .write]) (q + 1)
          (csLow (setPhase .softStart s))) := by
  simp [bringupSoftStart, sendCmd_underway_fault, h]

end Sys2Proof.Machine
end

section
/-! SUPPORT. What each operation does, branch by branch: the events, the questions, the result, and the registers and lines it
writes beside them. -/

namespace Sys2Proof.Machine

variable {s : State}

/-! ### No bus call -/

theorem exec_encodeWrite (r : RegAddr) (v : Byte) :
    exec (.encodeWrite r v) s
      = .next (afterOperation [] 0 ⟨.ok, dataOfFrame (encodeWriteBytes s.cfg r v)⟩ s) := by
  simp [exec, execEncodeWrite, startOperation_eq_underway]

theorem exec_encodeCommand (code : Byte) :
    exec (.encodeCommand code) s = .next (afterOperation [] 0 ⟨.ok, dataOfByte (encodeCommandByte code)⟩ s) := by
  simp [exec, execEncodeCommand, startOperation_eq_underway]

theorem exec_reservedAB (low : BitVec 1) :
    exec (.reservedAB low) s = .next (afterOperation [] 0 ⟨.illegalOp, 0⟩ s) := by
  simp [exec, execReservedAB, startOperation_eq_underway]

theorem exec_reservedCF (low : BitVec 2) :
    exec (.reservedCF low) s = .next (afterOperation [] 0 ⟨.illegalOp, 0⟩ s) := by
  simp [exec, execReservedCF, startOperation_eq_underway]

theorem exec_isDataReady :
    exec .isDataReady s
      = .next (afterOperation [.drdySample (drdyAsserted s.cfg (answer s 0))] 1
          ⟨.ok, dataOfBool (drdyAsserted s.cfg (answer s 0))⟩ s) := by
  simp [exec, execIsDataReady, startOperation_eq_underway, sampleDrdy_underway]

/-! ### One write in a frame -/

theorem sendCommandFrame_ok (code : Byte) (h : (answer s 0).busFault = false) :
    sendCommandFrame code s = csHigh (afterOperation (writeEvents [code]) 1 ⟨.ok, 0⟩ s) := by
  simp [sendCommandFrame, startOperation_eq_underway, sendCmd_underway_ok, h]

theorem sendCommandFrame_fault (code : Byte) (h : (answer s 0).busFault = true) :
    sendCommandFrame code s = csHigh (afterOperation writeFaultEvents 1 ⟨.busFault, 0⟩ s) := by
  simp [sendCommandFrame, startOperation_eq_underway, sendCmd_underway_fault, h, writeFaultEvents]

theorem sendRegisterFrame_ok (r : RegAddr) (v : Byte) (h : (answer s 0).busFault = false) :
    sendRegisterFrame r v s
      = csHigh (afterOperation (writeEvents (encodeWriteBytes s.cfg r v)) 1 ⟨.ok, 0⟩ s) := by
  simp [sendRegisterFrame, startOperation_eq_underway, writeReg_underway_ok, h]

theorem sendRegisterFrame_fault (r : RegAddr) (v : Byte) (h : (answer s 0).busFault = true) :
    sendRegisterFrame r v s = csHigh (afterOperation writeFaultEvents 1 ⟨.busFault, 0⟩ s) := by
  simp [sendRegisterFrame, startOperation_eq_underway, writeReg_underway_fault, h, writeFaultEvents]

theorem exec_setChannel_ok {ch : BitVec 32} (hl : channelLegal s.cfg ch = true) (h : (answer s 0).busFault = false) :
    exec (.setChannel ch) s
      = .next (setChan (channelNibble ch) (csHigh (afterOperation
          (writeEvents (encodeWriteBytes s.cfg s.cfg.regInpmux (inpmux s.cfg (channelNibble ch)))) 1 ⟨.ok, 0⟩ s))) := by
  simp [exec, execSetChannel, setChannel, startOperation_eq_underway, hl, writeReg_underway_ok, h]

theorem exec_setChannel_fault {ch : BitVec 32} (hl : channelLegal s.cfg ch = true) (h : (answer s 0).busFault = true) :
    exec (.setChannel ch) s = .next (csHigh (afterOperation writeFaultEvents 1 ⟨.busFault, 0⟩ s)) := by
  simp [exec, execSetChannel, setChannel, startOperation_eq_underway, hl, writeReg_underway_fault, h, writeFaultEvents]

theorem exec_setChannel_illegal {ch : BitVec 32} (hl : channelLegal s.cfg ch = false) :
    exec (.setChannel ch) s = .next (afterOperation [] 0 ⟨.invalidChannel, 0⟩ s) := by
  simp [exec, execSetChannel, setChannel, startOperation_eq_underway, hl]

theorem exec_setReference_ok (v : Volts) (h : (answer s 0).busFault = false) :
    exec (.setReference v) s
      = .next (setRef v (refModeOf v) (csHigh (afterOperation
          (writeEvents (encodeWriteBytes s.cfg s.cfg.regRef (refPattern s.cfg (refModeOf v)))) 1 ⟨.ok, 0⟩ s))) := by
  simp [exec, execSetReference, setReference, startOperation_eq_underway, writeReg_underway_ok, h]

theorem exec_setReference_fault (v : Volts) (h : (answer s 0).busFault = true) :
    exec (.setReference v) s = .next (csHigh (afterOperation writeFaultEvents 1 ⟨.busFault, 0⟩ s)) := by
  simp [exec, execSetReference, setReference, startOperation_eq_underway, writeReg_underway_fault, h, writeFaultEvents]

/-! ### Sample reads: a read procedure, and `g` the form in which the operation answers the sample -/

/-- An operation that reads a sample by `raw` and answers it in the form `g` (R83). -/
def readSample (raw : State → Flow Sample) (g : Sample → Data) (s : State) : State :=
  conclude false ((raw (startOperation s)).andThen fun r t => .done (g r) t)

theorem exec_readRaw : exec .readRaw s = .next (readSample rawFreewheel dataOfSample s) := rfl
theorem exec_readRdata : exec .readRdata s = .next (readSample rawRdata dataOfSample s) := rfl
theorem exec_readInt (p : ReadPath) :
    exec (.readInt p) s = .next (readSample (rawByPath p) (fun r => dataOfInt (sampleToInt r)) s) := rfl
theorem exec_readVolt (p : ReadPath) :
    exec (.readVolt p) s = .next (readSample (rawByPath p) (fun r => intToVolt (sampleToInt r) s.vref) s) := rfl
theorem exec_rd3 : exec .rd3 s = .next (readSample rawFreewheel dataOfSample s) := rfl
theorem exec_rdata4 : exec .rdata4 s = .next (readSample rdataFrame dataOfSample s) := rfl

variable (g : Sample → Data)

theorem readSample_freewheel_ok (h : (answer s 0).busFault = false) :
    readSample rawFreewheel g s
      = csHigh (afterOperation (freewheelEvents s.cfg (answer s 0)) 1 ⟨.ok, g (misoSample (answer s 0))⟩ s) := by
  simp [readSample, startOperation_eq_underway, rawFreewheel_underway_ok, h]

theorem readSample_freewheel_fault (h : (answer s 0).busFault = true) :
    readSample rawFreewheel g s = csHigh (afterOperation freewheelFaultEvents 1 ⟨.busFault, 0⟩ s) := by
  simp [readSample, startOperation_eq_underway, rawFreewheel_underway_fault, h, freewheelFaultEvents]

theorem readSample_rdataFrame_ok (h0 : (answer s 0).busFault = false) (h1 : (answer s 1).busFault = false) :
    readSample rdataFrame g s
      = csHigh (afterOperation (rdataEvents s.cfg (answer s 1)) 2 ⟨.ok, g (misoSample (answer s 1))⟩ s) := by
  simp [readSample, startOperation_eq_underway, rdataFrame_underway_ok, h0, h1]

theorem readSample_rdataFrame_write_fault (h0 : (answer s 0).busFault = true) :
    readSample rdataFrame g s = csHigh (afterOperation writeFaultEvents 1 ⟨.busFault, 0⟩ s) := by
  simp [readSample, startOperation_eq_underway, rdataFrame_underway_write_fault, h0,
    writeFaultEvents]

theorem readSample_rdataFrame_exchange_fault (h0 : (answer s 0).busFault = false)
    (h1 : (answer s 1).busFault = true) :
    readSample rdataFrame g s = csHigh (afterOperation (rdataFaultEvents s.cfg) 2 ⟨.busFault, 0⟩ s) := by
  simp [readSample, startOperation_eq_underway, rdataFrame_underway_exchange_fault, h0, h1,
    rdataFaultEvents]

theorem readSample_rdata_not_ready (hr : drdyAsserted s.cfg (answer s 0) = false) :
    readSample rawRdata g s = afterOperation [.drdySample false] 1 ⟨.dataNotReady, 0⟩ s := by
  simp [readSample, startOperation_eq_underway, rawRdata_underway_not_ready, hr]

theorem readSample_rdata_ok (hr : drdyAsserted s.cfg (answer s 0) = true) (h1 : (answer s 1).busFault = false)
    (h2 : (answer s 2).busFault = false) :
    readSample rawRdata g s
      = csHigh (afterOperation ([.drdySample true] ++ rdataEvents s.cfg (answer s 2)) 3
          ⟨.ok, g (misoSample (answer s 2))⟩ s) := by
  simp [readSample, startOperation_eq_underway, rawRdata_underway_ready, hr, rdataFrame_underway_ok, h1, h2]

theorem readSample_rdata_write_fault (hr : drdyAsserted s.cfg (answer s 0) = true)
    (h1 : (answer s 1).busFault = true) :
    readSample rawRdata g s
      = csHigh (afterOperation ([.drdySample true] ++ writeFaultEvents) 2 ⟨.busFault, 0⟩ s) := by
  simp [readSample, startOperation_eq_underway, rawRdata_underway_ready, hr, rdataFrame_underway_write_fault, h1,
    writeFaultEvents]

theorem readSample_rdata_exchange_fault (hr : drdyAsserted s.cfg (answer s 0) = true)
    (h1 : (answer s 1).busFault = false) (h2 : (answer s 2).busFault = true) :
    readSample rawRdata g s
      = csHigh (afterOperation ([.drdySample true] ++ rdataFaultEvents s.cfg) 3 ⟨.busFault, 0⟩ s) := by
  simp [readSample, startOperation_eq_underway, rawRdata_underway_ready, hr, rdataFrame_underway_exchange_fault, h1,
    h2, rdataFaultEvents]

/-! ### BRINGUP -/

/-- The lines of R130 before the first bus call. -/
theorem bringup_upToHardReset (s : State) :
    bringupHardReset (bringupDefaults (startOperation s))
      = underway bringupEvents1 0 (bringupRegisters .hardReset s) := by
  rw [startOperation_eq_underway, bringupDefaults_underway, bringupHardReset_underway, ← bringupRegisters_eq]
  rfl

/-- The sequence of R130 where no bus call fails. -/
theorem exec_bringup_ok (h : noFault s 4) :
    exec .bringup s = .next (bringupRegisters .ready (afterOperation (bringupEvents s.cfg) 4 ⟨.ok, 0⟩ s)) := by
  have h0 := h 0 (by decide)
  have h1 := h 1 (by decide)
  have h2 := h 2 (by decide)
  have h3 := h 3 (by decide)
  simp [exec, execBringup, bringupSequence, bringup_upToHardReset, bringupSoftReset_underway_ok,
    bringupConfiguring_underway_ok, bringupHardStart_underway, bringupSoftStart_underway_ok, h0, h1, h2, h3,
    bringupEvents]

theorem exec_bringup_fault_softReset (h0 : (answer s 0).busFault = true) :
    exec .bringup s
      = .next (bringupRegisters .unpowered (afterOperation (bringupFaultEvents s.cfg 0) 1 ⟨.busFault, 0⟩ s)) := by
  simp [exec, execBringup, bringupSequence, bringup_upToHardReset, bringupSoftReset_underway_fault, h0,
    bringupFaultEvents, writeFaultEvents]

theorem exec_bringup_fault_inpmux (h0 : (answer s 0).busFault = false) (h1 : (answer s 1).busFault = true) :
    exec .bringup s
      = .next (bringupRegisters .unpowered (afterOperation (bringupFaultEvents s.cfg 1) 2 ⟨.busFault, 0⟩ s)) := by
  simp [exec, execBringup, bringupSequence, bringup_upToHardReset, bringupSoftReset_underway_ok,
    bringupConfiguring_underway_fault_first, h0, h1, bringupFaultEvents,
    writeFaultEvents]

theorem exec_bringup_fault_reference (h0 : (answer s 0).busFault = false) (h1 : (answer s 1).busFault = false)
    (h2 : (answer s 2).busFault = true) :
    exec .bringup s
      = .next (bringupRegisters .unpowered (afterOperation (bringupFaultEvents s.cfg 2) 3 ⟨.busFault, 0⟩ s)) := by
  simp [exec, execBringup, bringupSequence, bringup_upToHardReset, bringupSoftReset_underway_ok,
    bringupConfiguring_underway_fault_second, h0, h1, h2, bringupFaultEvents,
    writeFaultEvents]

theorem exec_bringup_fault_softStart (h : noFault s 3) (h3 : (answer s 3).busFault = true) :
    exec .bringup s
      = .next (bringupRegisters .unpowered (afterOperation (bringupFaultEvents s.cfg 3) 4 ⟨.busFault, 0⟩ s)) := by
  have h0 := h 0 (by decide)
  have h1 := h 1 (by decide)
  have h2 := h 2 (by decide)
  simp [exec, execBringup, bringupSequence, bringup_upToHardReset, bringupSoftReset_underway_ok,
    bringupConfiguring_underway_ok, bringupHardStart_underway, bringupSoftStart_underway_fault, h0, h1, h2, h3,
    bringupFaultEvents, writeFaultEvents]

/-- R216 in BRINGUP: the k-th bus call, the first that fails, ends the sequence `Unpowered` with the frame closed. -/
theorem exec_bringup_fault {k : Nat} (hk : k < 4) (h : noFault s k) (hf : (answer s k).busFault = true) :
    exec .bringup s
      = .next (bringupRegisters .unpowered (afterOperation (bringupFaultEvents s.cfg k) (k + 1) ⟨.busFault, 0⟩ s)) := by
  match k, hk with
  | 0, _ => exact exec_bringup_fault_softReset hf
  | 1, _ => exact exec_bringup_fault_inpmux (h 0 (by decide)) hf
  | 2, _ => exact exec_bringup_fault_reference (h 0 (by decide)) (h 1 (by decide)) hf
  | 3, _ => exact exec_bringup_fault_softStart h hf

/-- Either none of the next `n` bus calls fails, or one is the first that does. -/
theorem noFault_or_first_fault (s : State) (n : Nat) :
    noFault s n ∨ ∃ k, k < n ∧ noFault s k ∧ (answer s k).busFault = true := by
  induction n with
  | zero => exact .inl fun k hk => absurd hk (Nat.not_lt_zero k)
  | succ n ih =>
    rcases ih with h | ⟨k, hk, h, hf⟩
    · cases hn : (answer s n).busFault with
      | false =>
        refine .inl fun k hk => ?_
        rcases Nat.lt_succ_iff_lt_or_eq.mp hk with hk | rfl
        · exact h k hk
        · exact hn
      | true => exact .inr ⟨n, Nat.lt_succ_self n, h, hn⟩
    · exact .inr ⟨k, Nat.lt_succ_of_lt hk, h, hf⟩

end Sys2Proof.Machine
end

section
/-! SUPPORT. What an operation can do, said once for all of them: it ends, it adds its events, questions and result, and beside
them it writes one of five combinations of registers and lines. The events and the result are the same from every state with
the same parameters, reference and environment. -/

namespace Sys2Proof.Machine

/-! ### What an operation depends on -/

/-- Two states that differ at most in what no operation's events and result depend on. -/
structure SameInputs (s s' : State) : Prop where
  cfg : s'.cfg = s.cfg
  vref : s'.vref = s.vref
  env : s'.env = s.env
  asked : s'.asked = s.asked

theorem SameInputs.refl (s : State) : SameInputs s s := ⟨rfl, rfl, rfl, rfl⟩

theorem SameInputs.answer {s s' : State} (h : SameInputs s s') (k : Nat) : answer s' k = answer s k := by
  simp [Machine.answer, h.env, h.asked]

theorem SameInputs.busFault {s s' : State} (h : SameInputs s s') {k : Nat} {v : Bool}
    (hk : (Machine.answer s k).busFault = v) : (Machine.answer s' k).busFault = v := by
  rw [h.answer, hk]

theorem SameInputs.noFault {s s' : State} (h : SameInputs s s') {n : Nat} (hn : noFault s n) : noFault s' n :=
  fun k hk => h.busFault (hn k hk)

theorem SameInputs.drdyAsserted {s s' : State} (h : SameInputs s s') {k : Nat} {v : Bool}
    (hk : drdyAsserted s.cfg (Machine.answer s k) = v) : drdyAsserted s'.cfg (Machine.answer s' k) = v := by
  rw [h.cfg, h.answer, hk]

/-! ### What it writes in the registers and lines -/

/-- What an operation can write in the registers and lines, beside what it does to the trace and the ports: nothing; CS high
after a frame; a legal CHAN; VREF with the REFMODE that belongs to it; or what BRINGUP leaves. -/
inductive RegisterEffect (c : Config) : Instr → (State → State) → Prop where
  | none {i : Instr} : RegisterEffect c i id
  | closed {i : Instr} : RegisterEffect c i csHigh
  | chan {ch : BitVec 32} (legal : channelLegal c ch = true) :
      RegisterEffect c (.setChannel ch) fun t => setChan (channelNibble ch) (csHigh t)
  | reference {v : Volts} : RegisterEffect c (.setReference v) fun t => setRef v (refModeOf v) (csHigh t)
  | bringup {p : Phase} (settled : p = .unpowered ∨ p = .ready) : RegisterEffect c .bringup (bringupRegisters p)

/-- Two states that differ at most in registers and lines. -/
structure SameRun (s t : State) : Prop where
  cfg : t.cfg = s.cfg
  position : t.position = s.position
  busy : t.busy = s.busy
  pending : t.pending = s.pending
  slot : t.slot = s.slot
  resultPort : t.resultPort = s.resultPort
  taking : t.taking = s.taking
  results : t.results = s.results
  trace : t.trace = s.trace
  asked : t.asked = s.asked

theorem RegisterEffect.sameRun {c : Config} {i : Instr} {write : State → State} (h : RegisterEffect c i write)
    (s : State) : SameRun s (write s) := by
  cases h with
  | none | closed | chan _ | reference | bringup _ => exact ⟨rfl, rfl, rfl, rfl, rfl, rfl, rfl, rfl, rfl, rfl⟩

/-- From every state with the inputs of `s`, the operation ends with the same events, questions and result, and writes the same
registers and lines. -/
def EndsFrom (s : State) (i : Instr) : Prop :=
  ∃ (write : State → State) (events : List Event) (questions : Nat) (r : Result), RegisterEffect s.cfg i write
    ∧ ∀ s', SameInputs s s' → exec i s' = .next (write (afterOperation events questions r s'))

/-! ### Each operation -/

variable (s : State) (i : Instr)

theorem sendCommandFrame_endsFrom (code : Config → Byte)
    (hrun : ∀ t, exec i t = .next (sendCommandFrame (code t.cfg) t)) : EndsFrom s i := by
  cases h : (answer s 0).busFault with
  | false =>
    exact ⟨csHigh, writeEvents [code s.cfg], 1, ⟨.ok, 0⟩, .closed, fun s' hs => by
      rw [hrun, sendCommandFrame_ok _ (hs.busFault h), hs.cfg]⟩
  | true =>
    exact ⟨csHigh, writeFaultEvents, 1, ⟨.busFault, 0⟩, .closed, fun s' hs => by
      rw [hrun, sendCommandFrame_fault _ (hs.busFault h)]⟩

theorem sendRegisterFrame_endsFrom (register : Config → RegAddr) (value : Byte)
    (hrun : ∀ t, exec i t = .next (sendRegisterFrame (register t.cfg) value t)) : EndsFrom s i := by
  cases h : (answer s 0).busFault with
  | false =>
    exact ⟨csHigh, writeEvents (encodeWriteBytes s.cfg (register s.cfg) value), 1, ⟨.ok, 0⟩, .closed, fun s' hs => by
      rw [hrun, sendRegisterFrame_ok _ _ (hs.busFault h), hs.cfg]⟩
  | true =>
    exact ⟨csHigh, writeFaultEvents, 1, ⟨.busFault, 0⟩, .closed, fun s' hs => by
      rw [hrun, sendRegisterFrame_fault _ _ (hs.busFault h)]⟩

theorem readSample_freewheel_endsFrom (g : Volts → Sample → Data)
    (hrun : ∀ t, exec i t = .next (readSample rawFreewheel (g t.vref) t)) : EndsFrom s i := by
  cases h : (answer s 0).busFault with
  | false =>
    exact ⟨csHigh, freewheelEvents s.cfg (answer s 0), 1, ⟨.ok, g s.vref (misoSample (answer s 0))⟩, .closed,
      fun s' hs => by rw [hrun, readSample_freewheel_ok _ (hs.busFault h), hs.cfg, hs.vref, hs.answer]⟩
  | true =>
    exact ⟨csHigh, freewheelFaultEvents, 1, ⟨.busFault, 0⟩, .closed, fun s' hs => by
      rw [hrun, readSample_freewheel_fault _ (hs.busFault h)]⟩

theorem readSample_rdataFrame_endsFrom (g : Volts → Sample → Data)
    (hrun : ∀ t, exec i t = .next (readSample rdataFrame (g t.vref) t)) : EndsFrom s i := by
  cases h0 : (answer s 0).busFault with
  | true =>
    exact ⟨csHigh, writeFaultEvents, 1, ⟨.busFault, 0⟩, .closed, fun s' hs => by
      rw [hrun, readSample_rdataFrame_write_fault _ (hs.busFault h0)]⟩
  | false =>
    cases h1 : (answer s 1).busFault with
    | true =>
      exact ⟨csHigh, rdataFaultEvents s.cfg, 2, ⟨.busFault, 0⟩, .closed, fun s' hs => by
        rw [hrun, readSample_rdataFrame_exchange_fault _ (hs.busFault h0) (hs.busFault h1), hs.cfg]⟩
    | false =>
      exact ⟨csHigh, rdataEvents s.cfg (answer s 1), 2, ⟨.ok, g s.vref (misoSample (answer s 1))⟩, .closed,
        fun s' hs => by
          rw [hrun, readSample_rdataFrame_ok _ (hs.busFault h0) (hs.busFault h1), hs.cfg, hs.vref, hs.answer]⟩

theorem readSample_rdata_endsFrom (g : Volts → Sample → Data)
    (hrun : ∀ t, exec i t = .next (readSample rawRdata (g t.vref) t)) : EndsFrom s i := by
  cases hr : drdyAsserted s.cfg (answer s 0) with
  | false =>
    exact ⟨id, [.drdySample false], 1, ⟨.dataNotReady, 0⟩, .none, fun s' hs => by
      rw [hrun, readSample_rdata_not_ready _ (hs.drdyAsserted hr), id]⟩
  | true =>
    cases h1 : (answer s 1).busFault with
    | true =>
      exact ⟨csHigh, [.drdySample true] ++ writeFaultEvents, 2, ⟨.busFault, 0⟩, .closed, fun s' hs => by
        rw [hrun, readSample_rdata_write_fault _ (hs.drdyAsserted hr) (hs.busFault h1)]⟩
    | false =>
      cases h2 : (answer s 2).busFault with
      | true =>
        exact ⟨csHigh, [.drdySample true] ++ rdataFaultEvents s.cfg, 3, ⟨.busFault, 0⟩, .closed, fun s' hs => by
          rw [hrun, readSample_rdata_exchange_fault _ (hs.drdyAsserted hr) (hs.busFault h1) (hs.busFault h2), hs.cfg]⟩
      | false =>
        exact ⟨csHigh, [.drdySample true] ++ rdataEvents s.cfg (answer s 2), 3,
          ⟨.ok, g s.vref (misoSample (answer s 2))⟩, .closed, fun s' hs => by
            rw [hrun, readSample_rdata_ok _ (hs.drdyAsserted hr) (hs.busFault h1) (hs.busFault h2), hs.cfg, hs.vref,
              hs.answer]⟩

theorem readSample_byPath_endsFrom (p : ReadPath) (g : Volts → Sample → Data)
    (hrun : ∀ t, exec i t = .next (readSample (rawByPath p) (g t.vref) t)) : EndsFrom s i := by
  cases p with
  | freewheel => exact readSample_freewheel_endsFrom s i g hrun
  | rdata => exact readSample_rdata_endsFrom s i g hrun

theorem exec_setChannel_endsFrom (ch : BitVec 32) : EndsFrom s (.setChannel ch) := by
  cases hl : channelLegal s.cfg ch with
  | false =>
    exact ⟨id, [], 0, ⟨.invalidChannel, 0⟩, .none, fun s' hs => exec_setChannel_illegal (by rw [hs.cfg, hl])⟩
  | true =>
    cases h : (answer s 0).busFault with
    | false =>
      exact ⟨_, writeEvents (encodeWriteBytes s.cfg s.cfg.regInpmux (inpmux s.cfg (channelNibble ch))), 1, ⟨.ok, 0⟩,
        .chan hl, fun s' hs => by rw [exec_setChannel_ok (by rw [hs.cfg, hl]) (hs.busFault h), hs.cfg]⟩
    | true =>
      exact ⟨csHigh, writeFaultEvents, 1, ⟨.busFault, 0⟩, .closed, fun s' hs =>
        exec_setChannel_fault (by rw [hs.cfg, hl]) (hs.busFault h)⟩

theorem exec_setReference_endsFrom (v : Volts) : EndsFrom s (.setReference v) := by
  cases h : (answer s 0).busFault with
  | false =>
    exact ⟨_, writeEvents (encodeWriteBytes s.cfg s.cfg.regRef (refPattern s.cfg (refModeOf v))), 1, ⟨.ok, 0⟩,
      .reference, fun s' hs => by rw [exec_setReference_ok _ (hs.busFault h), hs.cfg]⟩
  | true =>
    exact ⟨csHigh, writeFaultEvents, 1, ⟨.busFault, 0⟩, .closed, fun s' hs => exec_setReference_fault _ (hs.busFault h)⟩

theorem exec_bringup_endsFrom : EndsFrom s .bringup := by
  rcases noFault_or_first_fault s 4 with h | ⟨k, hk, h, hf⟩
  · exact ⟨_, bringupEvents s.cfg, 4, ⟨.ok, 0⟩, .bringup (.inr rfl), fun s' hs => by
      rw [exec_bringup_ok (hs.noFault h), hs.cfg]⟩
  · exact ⟨_, bringupFaultEvents s.cfg k, k + 1, ⟨.busFault, 0⟩, .bringup (.inl rfl), fun s' hs => by
      rw [exec_bringup_fault hk (hs.noFault h) (hs.busFault hf), hs.cfg]⟩

/-- The inversion lemma of `exec`: every operation ends, and so. -/
theorem exec_endsFrom : EndsFrom s i := by
  cases i with
  | bringup => exact exec_bringup_endsFrom s
  | encodeWrite r v =>
    exact ⟨id, [], 0, ⟨.ok, dataOfFrame (encodeWriteBytes s.cfg r v)⟩, .none, fun s' hs => by
      rw [exec_encodeWrite, hs.cfg, id]⟩
  | encodeCommand code => exact ⟨id, [], 0, _, .none, fun _ _ => exec_encodeCommand code⟩
  | setChannel ch => exact exec_setChannel_endsFrom s ch
  | setReference v => exact exec_setReference_endsFrom s v
  | isDataReady =>
    exact ⟨id, [.drdySample (drdyAsserted s.cfg (answer s 0))], 1,
      ⟨.ok, dataOfBool (drdyAsserted s.cfg (answer s 0))⟩, .none, fun s' hs => by
        rw [exec_isDataReady, hs.cfg, hs.answer, id]⟩
  | readRaw => exact readSample_freewheel_endsFrom s _ (fun _ => dataOfSample) fun _ => rfl
  | readRdata => exact readSample_rdata_endsFrom s _ (fun _ => dataOfSample) fun _ => rfl
  | readInt p => exact readSample_byPath_endsFrom s _ p (fun _ r => dataOfInt (sampleToInt r)) fun _ => rfl
  | readVolt p => exact readSample_byPath_endsFrom s _ p (fun vref r => intToVolt (sampleToInt r) vref) fun _ => rfl
  | reservedAB low => exact ⟨id, [], 0, _, .none, fun _ _ => exec_reservedAB low⟩
  | reservedCF low => exact ⟨id, [], 0, _, .none, fun _ _ => exec_reservedCF low⟩
  | cmdNop => exact sendCommandFrame_endsFrom s _ (·.cmdNop) fun _ => rfl
  | cmdWakeup => exact sendCommandFrame_endsFrom s _ (·.cmdWakeup) fun _ => rfl
  | cmdPowerdown => exact sendCommandFrame_endsFrom s _ (·.cmdPowerdown) fun _ => rfl
  | cmdReset => exact sendCommandFrame_endsFrom s _ (·.cmdReset) fun _ => rfl
  | cmdStart => exact sendCommandFrame_endsFrom s _ (·.cmdStart) fun _ => rfl
  | cmdStop => exact sendCommandFrame_endsFrom s _ (·.cmdStop) fun _ => rfl
  | cmdSyocal => exact sendCommandFrame_endsFrom s _ (·.cmdSyocal) fun _ => rfl
  | cmdSygcal => exact sendCommandFrame_endsFrom s _ (·.cmdSygcal) fun _ => rfl
  | cmdSfocal => exact sendCommandFrame_endsFrom s _ (·.cmdSfocal) fun _ => rfl
  | cmdRreg => exact sendCommandFrame_endsFrom s _ (·.cmdRreg) fun _ => rfl
  | wreg r v => exact sendRegisterFrame_endsFrom s _ (fun _ => r) v fun _ => rfl
  | wregInpmux ch neg => exact sendRegisterFrame_endsFrom s _ (·.regInpmux) (inpmuxWith neg ch) fun _ => rfl
  | wregRef p => exact sendRegisterFrame_endsFrom s _ (·.regRef) p fun _ => rfl
  | rd3 => exact readSample_freewheel_endsFrom s _ (fun _ => dataOfSample) fun _ => rfl
  | rdata4 => exact readSample_rdataFrame_endsFrom s _ (fun _ => dataOfSample) fun _ => rfl

/-- The inversion lemma for one state: the next state of an operation. -/
theorem exec_next {s t : State} {i : Instr} (h : exec i s = .next t) :
    ∃ write events questions r, RegisterEffect s.cfg i write ∧ t = write (afterOperation events questions r s) := by
  obtain ⟨write, events, questions, r, hw, hrun⟩ := exec_endsFrom s i
  rw [hrun s (.refl s)] at h
  cases h
  exact ⟨write, events, questions, r, hw, rfl⟩

end Sys2Proof.Machine
end

section
/-! SUPPORT. The step on top of one operation: which request it runs, what it keeps, and the register invariant. -/

namespace Sys2Proof.Machine

/-! ### The step -/

/-- `takeFirst` splits a list at an admitted entry that has no admitted one before it. -/
theorem takeFirst_append {p : Code → Bool} {before after : List Code} {c : Code} (hb : ∀ d ∈ before, p d = false)
    (hc : p c = true) : takeFirst p (before ++ c :: after) = some (before, c, after) := by
  induction before with
  | nil => simp [takeFirst, hc]
  | cons d ds ih =>
    obtain ⟨hd, hds⟩ := List.forall_mem_cons.mp hb
    simp [takeFirst, hd, ih hds]

/-- A step that answers next has waited, or has run one operation to its end. -/
theorem step_next {s t : State} (h : step s = .next t) :
    t = hostTakes s
      ∨ ∃ (i : Instr) (before after : List Code) (write : State → State) (events : List Event) (questions : Nat)
          (r : Result), RegisterEffect s.cfg i write
        ∧ t = write (afterOperation events questions r (acceptRequest before after (hostTakes s))) := by
  rcases step_cases s with ⟨-, hs⟩ | ⟨before, c, after, e, -, -, hs⟩ | ⟨before, c, after, i, -, -, hs⟩
  · rw [hs] at h
    cases h
    exact .inl rfl
  · rw [hs] at h
    cases h
  · rw [hs] at h
    obtain ⟨write, events, questions, r, hw, ht⟩ := exec_next h
    exact .inr ⟨i, before, after, write, events, questions, r, by simpa using hw, ht⟩

/-- Filling a place answers one request that had no result, and no other (R247). -/
theorem resultOf_fillSlot {s t : State} {r : Result} {n : Nat} (h : t.results = fillSlot r n s.results) :
    ∃ k, resultOf s k = none ∧ resultOf t k = some r ∧ ∀ j, j ≠ k → resultOf t j = resultOf s j := by
  obtain ⟨k, hnone, -, hsome, hothers⟩ := fillSlot_spec r n s.results
  simp only [resultOf, h]
  exact ⟨k, hnone, hsome, hothers⟩

/-! ### The register invariant -/

/-- R9 item e: the default channel is a legal one. -/
theorem ConfigLegal.defaultChannel_le {c : Config} (h : ConfigLegal c) : c.defaultChannel.toNat ≤ c.chanMax.toNat := by
  obtain ⟨hw, -⟩ := h
  simp only [Config.wellFormed, Bool.and_eq_true, decide_eq_true_eq] at hw
  exact BitVec.le_def.mp (by tauto)

/-- R8: the default reference is 2.5 V. -/
theorem ConfigLegal.defaultVref_eq {c : Config} (h : ConfigLegal c) : c.defaultVref = internalVolts := by
  obtain ⟨-, hm⟩ := h
  simp only [Config.hasM1Values, Bool.and_eq_true, beq_iff_eq] at hm
  tauto

/-- R150: what a legal channel leaves in `CHAN` is a legal channel (R21). -/
theorem channelNibble_le {c : Config} {ch : BitVec 32} (h : channelLegal c ch = true) :
    (channelNibble ch).toNat ≤ c.chanMax.toNat := by
  simp only [channelLegal, Bool.and_eq_true, decide_eq_true_eq] at h
  obtain ⟨h0, hmax⟩ := h
  have hlow : (channelNibble ch).toNat = ch.toNat % 16 := by simp [channelNibble]
  have hint : ch.toInt = ch.toNat := by
    rw [BitVec.toInt_eq_toNat_cond] at h0 ⊢
    split at h0 <;> omega
  omega

/-- R200: the mode that goes with a reference is INTERNAL exactly at 2.5 V. -/
theorem refModeOf_eq_internal (v : Volts) : refModeOf v = .internal ↔ v = internalVolts := by
  simp [refModeOf]

theorem RegistersLegal.hostTakes {s : State} (h : RegistersLegal s) : RegistersLegal (hostTakes s) := by
  obtain ⟨p, later, hp⟩ := hostTakes_cases s
  rw [hp]
  exact { h with }

/-- Before it writes registers, an operation keeps the invariant, whichever request it answers. -/
theorem RegistersLegal.afterOperation_acceptRequest {s : State} (h : RegistersLegal s) (events : List Event)
    (questions : Nat) (r : Result) (before after : List Code) :
    RegistersLegal (afterOperation events questions r (acceptRequest before after s)) :=
  { h with idle := rfl, at_start := rfl, none_answered := rfl }

/-- What an operation writes in the registers and lines keeps the invariant. -/
theorem RegisterEffect.registersLegal {s : State} {i : Instr} {write : State → State}
    (hw : RegisterEffect s.cfg i write) (hc : ConfigLegal s.cfg) (h : RegistersLegal s) : RegistersLegal (write s) := by
  cases hw with
  | none => exact h
  | closed => exact { h with cs_high := rfl }
  | chan legal => exact { h with chan_le := channelNibble_le legal, cs_high := rfl }
  | reference => exact { h with refmode_iff := refModeOf_eq_internal _, cs_high := rfl }
  | bringup settled =>
    exact { h with
      chan_le := hc.defaultChannel_le
      refmode_iff := iff_of_true rfl hc.defaultVref_eq
      phase_settled := settled
      cs_high := rfl
      rst_high := rfl
      sync_high := rfl }

/-! ### The statements -/

/-- Settles O49: `step_next` gives the waiting step and the operation; the invariant goes through the host's taking, the end of
the operation, and what the operation writes. -/
theorem stepKeepsRegistersLegal : Obligations.StepKeepsRegistersLegal := by
  intro s t hc h hstep
  rcases step_next hstep with rfl | ⟨i, before, after, write, events, questions, r, hw, rfl⟩
  · exact ⟨h.hostTakes, hostTakes_cfg s⟩
  · have hend := h.hostTakes.afterOperation_acceptRequest events questions r before after
    refine ⟨RegisterEffect.registersLegal (i := i) (by simpa using hw) (by simpa using hc) hend, ?_⟩
    rw [(hw.sameRun _).cfg]
    simp

/-- Settles O36, from the inversion lemma of `exec`: every operation ends, and what it writes beside its end is registers and
lines. -/
theorem everyOperationEnds : Obligations.EveryOperationEnds := by
  intro i s
  obtain ⟨write, events, questions, r, hw, hrun⟩ := exec_endsFrom s i
  have same := hw.sameRun (afterOperation events questions r s)
  exact ⟨_, r, hrun s (.refl s), same.resultPort, same.results, same.busy, same.position, same.slot, same.taking,
    same.pending, same.cfg⟩

/-- Settles O38: the inversion lemma gives one list of events and one result for all states with the same inputs. -/
theorem outcomeDependsOnVrefAndEnvironment : Obligations.OutcomeDependsOnVrefAndEnvironment := by
  intro i s s' t t' hcfg hvref henv hasked ht ht'
  obtain ⟨write, events, questions, r, hw, hrun⟩ := exec_endsFrom s i
  rw [hrun s (.refl s)] at ht
  rw [hrun s' ⟨hcfg.symm, hvref.symm, henv.symm, hasked.symm⟩] at ht'
  cases ht
  cases ht'
  have same := hw.sameRun (afterOperation events questions r s)
  have same' := hw.sameRun (afterOperation events questions r s')
  exact ⟨same.resultPort.trans same'.resultPort.symm, events, same.trace, same'.trace⟩

/-- Settles O41: a waiting step keeps trace, results and count; an operation appends its events and fills one empty place. -/
theorem traceOnlyGrows : Obligations.TraceOnlyGrows := by
  intro s t hstep
  rcases step_next hstep with rfl | ⟨i, before, after, write, events, questions, r, hw, rfl⟩
  · exact ⟨⟨[], by simp⟩, .inl (hostTakes_results s), (hostTakes_asked s).ge⟩
  · have same := hw.sameRun (afterOperation events questions r (acceptRequest before after (hostTakes s)))
    obtain ⟨k, hnone, hsome, hothers⟩ := resultOf_fillSlot (s := s) (by simpa using same.results)
    exact ⟨⟨events, by simp [same.trace]⟩, .inr ⟨k, r, hnone, hsome, hothers⟩, by simp [same.asked]⟩

/-- Settles O42: the port hands over the first accepted request, and the host's taking changes neither the port nor what is
accepted. -/
theorem stepRunsAcceptedRequest : Obligations.StepRunsAcceptedRequest := by
  intro s before after c i hp hbefore hc hd
  have hnext : nextAccepted s = some (before, c, after) := by
    rw [nextAccepted, hp, takeFirst_append hbefore hc]
  simp [step, runAccepted, nextAccepted_hostTakes, hnext, hd]

/-- Settles O48: the default parameters, and the reset values field by field. -/
theorem resetIsLegal : Obligations.ResetIsLegal :=
  ⟨⟨Config.default_wellFormed, Config.default_hasM1Values⟩,
    { chan_le := by decide
      refmode_iff := iff_of_true rfl rfl
      phase_settled := .inl rfl
      idle := rfl
      at_start := rfl
      none_answered := rfl
      cs_high := rfl
      rst_high := rfl
      sync_high := rfl }⟩

end Sys2Proof.Machine
end

section
/-! SUPPORT. The line discipline (R27, R56, R217) along one operation: the primitives keep it, so do the procedures made of
them, and every operation is such a procedure concluded. -/

namespace Sys2Proof.Machine

/-! ### The line discipline along one operation -/

/-- The levels inside an open frame: chip-select low, `RST` and `SYNC` high (R56). -/
def frameLevels : LineLevels := ⟨false, true, true⟩

/-- The trace keeps the discipline so far, and the line registers hold `l`. -/
structure LinesAt (l : LineLevels) (s : State) : Prop extends LinesFollowTrace s where
  holds : (⟨s.cs, s.rst, s.sync⟩ : LineLevels) = l

/-- A procedure keeps the discipline: run to its end it leaves the levels `l`, and where it raises, the clean-up of R216 leaves
the lines idle. -/
def EndsAt (l : LineLevels) {α : Type} : Flow α → Prop
  | .done _ t => LinesAt l t
  | .raised x t => LinesAt idleLevels (raiseCleanup false x t)

theorem levelsAfterAll_append (l : LineLevels) (es fs : List Event) :
    levelsAfterAll l (es ++ fs) = levelsAfterAll (levelsAfterAll l es) fs := by
  induction es generalizing l with
  | nil => rfl
  | cons e es ih => exact ih (levelsAfter l e)

theorem disciplined_append (l : LineLevels) (es fs : List Event) :
    disciplined l (es ++ fs) = (disciplined l es && disciplined (levelsAfterAll l es) fs) := by
  induction es generalizing l with
  | nil => rfl
  | cons e es ih => simp [disciplined, levelsAfterAll, ih, Bool.and_assoc]

section
variable {l : LineLevels} {s t : State}

/-- The discipline speaks of the trace and the three lines alone. -/
theorem LinesAt.of_same (h : LinesAt l s) (htrace : t.trace = s.trace) (hcs : t.cs = s.cs) (hrst : t.rst = s.rst)
    (hsync : t.sync = s.sync) : LinesAt l t where
  kept := htrace ▸ h.kept
  levels := by rw [htrace, hcs, hrst, hsync, h.levels]
  holds := by rw [hcs, hrst, hsync, h.holds]

/-- One more event that its levels allow keeps the discipline, where the line registers follow it. -/
theorem LinesAt.append_event (h : LinesAt l s) {e : Event} (ha : eventAllowed l e = true)
    (htrace : t.trace = s.trace ++ [e]) (hl : (⟨t.cs, t.rst, t.sync⟩ : LineLevels) = levelsAfter l e) :
    LinesAt (levelsAfter l e) t where
  kept := by rw [htrace, disciplined_append, h.kept, h.levels, h.holds]; simp [disciplined, ha]
  levels := by rw [htrace, levelsAfterAll_append, h.levels, h.holds, hl]; rfl
  holds := hl

/-- An event that is no `Line` event leaves the levels (R27). -/
theorem LinesAt.emit (h : LinesAt l s) {e : Event} (ha : eventAllowed l e = true) (hl : levelsAfter l e = l) :
    LinesAt l (emit e s) :=
  hl ▸ h.append_event ha rfl (h.holds.trans hl.symm)

theorem LinesAt.driveLine (h : LinesAt l s) (n : LineName) {v : Bool} (ha : eventAllowed l (.line n v) = true) :
    LinesAt (levelsAfter l (.line n v)) (driveLine n v s) := by
  obtain rfl := h.holds
  cases n with
  | cs | rst | sync => exact h.append_event ha rfl rfl

theorem LinesAt.delay (h : LinesAt l s) (p : DelayName) (hcs : l.cs = true) : LinesAt l (delay p s) := h.emit hcs rfl

theorem LinesAt.consume (h : LinesAt l s) (n : Nat) : LinesAt l (consume n s) := h.of_same rfl rfl rfl rfl

theorem LinesAt.setPhase (h : LinesAt l s) (p : Phase) : LinesAt l (setPhase p s) := h.of_same rfl rfl rfl rfl

/-- R216 item 2: closing the frame that a bus fault cut short leaves the lines idle. -/
theorem LinesAt.closeFrame (h : LinesAt frameLevels s) : LinesAt idleLevels (closeFrame s) := by
  rw [closeFrame_open s (congrArg LineLevels.cs h.holds)]
  exact h.driveLine .cs rfl

/-! ### The procedures -/

theorem EndsAt.andThen {α β : Type} {l' : LineLevels} {f : Flow α} {g : α → State → Flow β} (hf : EndsAt l f)
    (hg : ∀ a t, LinesAt l t → EndsAt l' (g a t)) : EndsAt l' (f.andThen g) := by
  cases f with
  | done a t => exact hg a t hf
  | raised x t => exact hf

theorem busWrite_endsAt (h : LinesAt frameLevels s) (bytes : List Byte) : EndsAt frameLevels (busWrite bytes s) := by
  cases hf : (answer s 0).busFault with
  | false => rw [busWrite_ok s bytes hf]; exact (h.consume 1).emit rfl rfl
  | true => rw [busWrite_fault s bytes hf]; exact ((h.consume 1).emit rfl rfl).closeFrame

theorem busXchg_endsAt (h : LinesAt frameLevels s) (out : List Byte) : EndsAt frameLevels (busXchg out s) := by
  cases hf : (answer s 0).busFault with
  | false => rw [busXchg_ok s out hf]; exact (h.consume 1).emit rfl rfl
  | true => rw [busXchg_fault s out hf]; exact ((h.consume 1).emit rfl rfl).closeFrame

theorem sampleDrdy_endsAt (h : LinesAt idleLevels s) : EndsAt idleLevels (sampleDrdy s) := (h.consume 1).emit rfl rfl

/-- R56: bus calls made at the levels of an open frame, put in a frame, start and end at idle lines. -/
theorem inFrame_endsAt {α : Type} {calls : State → Flow α} (h : LinesAt idleLevels s)
    (hcalls : ∀ t, LinesAt frameLevels t → EndsAt frameLevels (calls t)) : EndsAt idleLevels (inFrame calls s) :=
  (hcalls _ (h.driveLine .cs rfl)).andThen fun _ _ ht => ht.driveLine .cs rfl

theorem writeReg_endsAt (h : LinesAt idleLevels s) (r : RegAddr) (v : Byte) : EndsAt idleLevels (writeReg r v s) :=
  inFrame_endsAt h fun _ ht => busWrite_endsAt ht _

theorem sendCmd_endsAt (h : LinesAt idleLevels s) (code : Byte) : EndsAt idleLevels (sendCmd code s) :=
  inFrame_endsAt h fun _ ht => busWrite_endsAt ht _

theorem rawFreewheel_endsAt (h : LinesAt idleLevels s) : EndsAt idleLevels (rawFreewheel s) :=
  inFrame_endsAt h fun _ ht => busXchg_endsAt ht _

theorem rdataFrame_endsAt (h : LinesAt idleLevels s) : EndsAt idleLevels (rdataFrame s) :=
  inFrame_endsAt h fun _ ht => (busWrite_endsAt ht _).andThen fun _ _ hu => busXchg_endsAt hu _

theorem rawRdata_endsAt (h : LinesAt idleLevels s) : EndsAt idleLevels (rawRdata s) :=
  (sampleDrdy_endsAt h).andThen fun v t ht => by
    cases v with
    | false => exact ht
    | true => exact rdataFrame_endsAt ht

theorem rawByPath_endsAt (h : LinesAt idleLevels s) (p : ReadPath) : EndsAt idleLevels (rawByPath p s) := by
  cases p with
  | freewheel => exact rawFreewheel_endsAt h
  | rdata => exact rawRdata_endsAt h

theorem setChannel_endsAt (h : LinesAt idleLevels s) (ch : BitVec 32) : EndsAt idleLevels (setChannel ch s) := by
  unfold setChannel
  split
  · exact (writeReg_endsAt h _ _).andThen fun _ _ ht => ht.of_same rfl rfl rfl rfl
  · exact h

theorem setReference_endsAt (h : LinesAt idleLevels s) (v : Volts) : EndsAt idleLevels (setReference v s) :=
  (writeReg_endsAt h _ _).andThen fun _ _ ht => ht.of_same rfl rfl rfl rfl

/-! ### BRINGUP -/

theorem bringupDefaults_linesAt (h : LinesAt l s) : LinesAt l (bringupDefaults s) := h.of_same rfl rfl rfl rfl

/-- Each pulse of R131 and R132 happens with the other lines high. -/
theorem bringupHardReset_linesAt (h : LinesAt idleLevels s) : LinesAt idleLevels (bringupHardReset s) := by
  have powered := ((((h.setPhase .hardReset).driveLine .cs (v := true) rfl).driveLine .rst (v := true) rfl).driveLine
    .sync (v := true) rfl).delay .powerupSettle rfl
  exact ((powered.driveLine .rst (v := false) rfl).delay .resetLow rfl).driveLine .rst rfl

theorem bringupHardStart_linesAt (h : LinesAt idleLevels s) : LinesAt idleLevels (bringupHardStart s) :=
  (((h.setPhase .hardStart).driveLine .sync (v := false) rfl).delay .startLow rfl).driveLine .sync rfl

theorem bringupSoftReset_endsAt (h : LinesAt idleLevels s) : EndsAt idleLevels (bringupSoftReset s) :=
  (sendCmd_endsAt (h.setPhase .softReset) _).andThen fun _ _ ht => ht.delay .postReset rfl

theorem bringupConfiguring_endsAt (h : LinesAt idleLevels s) : EndsAt idleLevels (bringupConfiguring s) :=
  (writeReg_endsAt (h.setPhase .configuring) _ _).andThen fun _ _ ht => writeReg_endsAt ht _ _

theorem bringupSoftStart_endsAt (h : LinesAt idleLevels s) : EndsAt idleLevels (bringupSoftStart s) :=
  (sendCmd_endsAt (h.setPhase .softStart) _).andThen fun _ _ ht => ht.delay .interCmd rfl

theorem bringupSequence_endsAt (h : LinesAt idleLevels s) : EndsAt idleLevels (bringupSequence s) :=
  (bringupSoftReset_endsAt (bringupHardReset_linesAt (bringupDefaults_linesAt h))).andThen fun _ _ h3 =>
    (bringupConfiguring_endsAt h3).andThen fun _ _ h4 =>
      (bringupSoftStart_endsAt (bringupHardStart_linesAt h4)).andThen fun _ _ h6 => h6.setPhase .ready

/-! ### Whole operations -/

theorem startOperation_linesAt (h : LinesAt l s) : LinesAt l (startOperation s) := h.of_same rfl rfl rfl rfl

theorem present_linesAt (h : LinesAt l s) (r : Result) : LinesAt l (present r s) := h.of_same rfl rfl rfl rfl

/-- The clean-up of BRINGUP differs in `PHASE` alone (R216 item 4). -/
theorem raiseCleanup_linesAt {x : Status} (h : LinesAt l (raiseCleanup false x s)) (b : Bool) :
    LinesAt l (raiseCleanup b x s) := by
  cases b with
  | false => exact h
  | true =>
    cases x with
    | ok | invalidChannel | dataNotReady | illegalOp => exact h
    | busFault => exact h.setPhase .unpowered

theorem conclude_linesAt {f : Flow Data} (h : EndsAt idleLevels f) (b : Bool) : LinesAt idleLevels (conclude b f) := by
  cases f with
  | done d t => exact present_linesAt h _
  | raised x t => exact present_linesAt (raiseCleanup_linesAt h b) _

end

/-! ### Every operation -/

/-- The operation is a procedure concluded, and that procedure keeps the discipline from idle lines. -/
def Concludes (s : State) (i : Instr) : Prop :=
  ∃ (b : Bool) (f : Flow Data), exec i s = .next (conclude b f) ∧ (LinesAt idleLevels s → EndsAt idleLevels f)

section
variable {s : State} {i : Instr}

/-- An operation that runs a transaction or a read procedure and answers what `g` makes of its value. -/
theorem Concludes.of_procedure {α : Type} (g : α → Data) (p : State → Flow α)
    (hp : ∀ {t}, LinesAt idleLevels t → EndsAt idleLevels (p t))
    (hrun : exec i s = .next (conclude false ((p (startOperation s)).andThen fun a t => .done (g a) t))) :
    Concludes s i :=
  ⟨false, _, hrun, fun h => (hp (startOperation_linesAt h)).andThen fun _ _ ht => ht⟩

theorem Concludes.of_sendCommandFrame (code : Byte) (hrun : exec i s = .next (sendCommandFrame code s)) :
    Concludes s i :=
  .of_procedure (fun _ => 0) (sendCmd code) (sendCmd_endsAt · code) hrun

theorem Concludes.of_sendRegisterFrame (r : RegAddr) (v : Byte) (hrun : exec i s = .next (sendRegisterFrame r v s)) :
    Concludes s i :=
  .of_procedure (fun _ => 0) (writeReg r v) (writeReg_endsAt · r v) hrun

end

/-- What every operation is: a procedure that keeps the discipline, concluded. -/
theorem exec_concludes (s : State) (i : Instr) : Concludes s i := by
  cases i with
  | bringup => exact ⟨true, _, rfl, fun h => bringupSequence_endsAt (startOperation_linesAt h)⟩
  | encodeWrite _ _ | encodeCommand _ | reservedAB _ | reservedCF _ => exact ⟨false, _, rfl, startOperation_linesAt⟩
  | setChannel ch => exact ⟨false, _, rfl, fun h => setChannel_endsAt (startOperation_linesAt h) ch⟩
  | setReference v => exact ⟨false, _, rfl, fun h => setReference_endsAt (startOperation_linesAt h) v⟩
  | isDataReady => exact .of_procedure _ _ sampleDrdy_endsAt rfl
  | readRaw => exact .of_procedure _ _ rawFreewheel_endsAt rfl
  | readRdata => exact .of_procedure _ _ rawRdata_endsAt rfl
  | readInt p => exact .of_procedure _ _ (rawByPath_endsAt · p) rfl
  | readVolt p => exact .of_procedure _ _ (rawByPath_endsAt · p) rfl
  | cmdNop | cmdWakeup | cmdPowerdown | cmdReset | cmdStart | cmdStop | cmdSyocal | cmdSygcal | cmdSfocal | cmdRreg =>
    exact .of_sendCommandFrame _ rfl
  | wreg _ _ | wregInpmux _ _ | wregRef _ => exact .of_sendRegisterFrame _ _ rfl
  | rd3 => exact .of_procedure _ _ rawFreewheel_endsAt rfl
  | rdata4 => exact .of_procedure _ _ rdataFrame_endsAt rfl

/-- An operation that begins at idle lines ends at idle lines, its events disciplined. -/
theorem exec_linesAt {s t : State} {i : Instr} (h : LinesAt idleLevels s) (hrun : exec i s = .next t) :
    LinesAt idleLevels t := by
  obtain ⟨b, f, hexec, hf⟩ := exec_concludes s i
  rw [hexec] at hrun
  cases hrun
  exact conclude_linesAt (hf h) b

/-- R30, R216: what a concluded procedure puts on the result port has status OK or data 0. -/
theorem conclude_resultPort (b : Bool) (f : Flow Data) :
    ∃ r, (conclude b f).resultPort = some r ∧ (r.status = .ok ∨ r.data = 0) := by
  cases f with
  | done d t => exact ⟨⟨.ok, d⟩, rfl, .inl rfl⟩
  | raised x t => exact ⟨⟨x, 0⟩, rfl, .inr rfl⟩

end Sys2Proof.Machine
end

section
/-! SUPPORT. The parts of the bring-up sequence that make bus calls, and the phase each runs in (R25, R141). -/

namespace Sys2Proof.Machine

/-! ### Questions still to come -/

theorem noFault.of_le {s : State} {m n : Nat} (h : noFault s m) (hn : n ≤ m) : noFault s n :=
  fun k hk => h k (Nat.lt_of_lt_of_le hk hn)

theorem noFault.of_answer {s t : State} {n : Nat} (h : noFault s n) (ht : ∀ k, answer t k = answer s k) : noFault t n :=
  fun k hk => ht k ▸ h k hk

/-- The calls after the first `n` do not fail, seen from a state in which those `n` have been made. -/
theorem noFault.after {s t : State} {m n : Nat} (h : noFault s (n + m)) (ht : ∀ k, answer t k = answer s (n + k)) :
    noFault t m :=
  fun k hk => ht k ▸ h (n + k) (Nat.add_lt_add_left hk n)

/-! ### A part in its phase -/

/-- A part of the sequence that makes `n` bus calls, in phase `p`: it ends with a value where none of them fails, and raises
BusFault where one does. -/
structure RunsInPhase (part : State → Flow Unit) (p : Phase) (n : Nat) : Prop where
  completes : ∀ {s : State}, noFault s n →
    ∃ t, part s = .done () t ∧ t.phase = p ∧ ∀ k, answer t k = answer s (n + k)
  faults : ∀ {s : State} {k : Nat}, k < n → noFault s k → (answer s k).busFault = true →
    ∃ t, part s = .raised .busFault t ∧ t.phase = p

/-- The part leaves its phase, whether or not a call fails. -/
theorem RunsInPhase.phase {part : State → Flow Unit} {p : Phase} {n : Nat} (h : RunsInPhase part p n) (s : State) :
    (part s).state.phase = p := by
  rcases noFault_or_first_fault s n with hn | ⟨k, hk, hn, hf⟩
  · obtain ⟨t, hpart, hphase, -⟩ := h.completes hn
    rw [hpart]
    exact hphase
  · obtain ⟨t, hpart, hphase⟩ := h.faults hk hn hf
    rw [hpart]
    exact hphase

/-- A command followed by a hold, as steps 3 and 6 are (R133, R136). -/
theorem commandAndDelay_runsInPhase (p : Phase) (code : Config → Byte) (d : DelayName) :
    RunsInPhase (fun s => (sendCmd (code s.cfg) (setPhase p s)).andThen fun _ t => .done () (delay d t)) p 1 where
  completes {s} h := by
    rw [sendCmd_ok (setPhase p s) _ (h 0 Nat.one_pos), andThen_done]
    exact ⟨_, rfl, rfl, by simp⟩
  faults {s k} hk _ hf := by
    obtain rfl : k = 0 := by omega
    rw [sendCmd_fault (setPhase p s) _ hf, andThen_raised]
    exact ⟨_, rfl, rfl⟩

theorem bringupSoftReset_runsInPhase : RunsInPhase bringupSoftReset .softReset 1 :=
  commandAndDelay_runsInPhase .softReset (·.cmdReset) .postReset

theorem bringupSoftStart_runsInPhase : RunsInPhase bringupSoftStart .softStart 1 :=
  commandAndDelay_runsInPhase .softStart (·.cmdStart) .interCmd

theorem bringupConfiguring_runsInPhase : RunsInPhase bringupConfiguring .configuring 2 where
  completes {s} h := by
    have h0 := h 0 (by decide)
    have h1 := h 1 (by decide)
    rw [bringupConfiguring, writeReg_ok (setPhase .configuring s) _ _ h0, andThen_done, writeReg_ok _ _ _ (by simpa using h1)]
    exact ⟨_, rfl, rfl, by simp [← Nat.add_assoc]⟩
  faults {s k} hk h hf := by
    match k, hk with
    | 0, _ =>
      rw [bringupConfiguring, writeReg_fault (setPhase .configuring s) _ _ hf, andThen_raised]
      exact ⟨_, rfl, rfl⟩
    | 1, _ =>
      rw [bringupConfiguring, writeReg_ok (setPhase .configuring s) _ _ (h 0 Nat.one_pos), andThen_done,
        writeReg_fault _ _ _ (by simpa using hf)]
      exact ⟨_, rfl, rfl⟩

/-! ### The sequence -/

@[simp] theorem bringupHardReset_phase (s : State) : (bringupHardReset s).phase = .hardReset := by
  simp [bringupHardReset]
@[simp] theorem bringupHardStart_phase (s : State) : (bringupHardStart s).phase = .hardStart := by
  simp [bringupHardStart]
@[simp] theorem answer_bringupHardReset (s : State) (k : Nat) : answer (bringupHardReset s) k = answer s k := by
  simp [bringupHardReset]
@[simp] theorem answer_bringupHardStart (s : State) (k : Nat) : answer (bringupHardStart s) k = answer s k := by
  simp [bringupHardStart]

/-- The sequence ends with a value in `Ready` only. -/
theorem bringupSequence_done_phase {s t : State} {d : Data} (h : bringupSequence s = .done d t) : t.phase = .ready := by
  obtain ⟨-, s3, -, h⟩ := andThen_eq_done h
  obtain ⟨-, s4, -, h⟩ := andThen_eq_done h
  obtain ⟨-, s6, -, h⟩ := andThen_eq_done h
  cases h
  rfl

/-- The sequence up to its hard reset has put no question to the environment. -/
theorem answer_upToHardReset (s : State) (k : Nat) :
    answer (bringupHardReset (bringupDefaults s)) k = answer s k := by simp

/-- The phases along the sequence where no call fails. -/
theorem bringupSequence_walks {s : State} (h : noFault s 4) : ∃ t2 t3 t5 : State,
    bringupSoftReset (bringupHardReset (bringupDefaults s)) = .done () t2 ∧ t2.phase = .softReset
      ∧ bringupConfiguring t2 = .done () t3 ∧ t3.phase = .configuring
      ∧ bringupSoftStart (bringupHardStart t3) = .done () t5 ∧ t5.phase = .softStart
      ∧ bringupSequence s = .done 0 (setPhase .ready t5) := by
  have h1 := h.of_answer (answer_upToHardReset s)
  obtain ⟨t2, e2, p2, a2⟩ := bringupSoftReset_runsInPhase.completes (h1.of_le (by decide))
  have h2 : noFault t2 3 := h1.after a2
  obtain ⟨t3, e3, p3, a3⟩ := bringupConfiguring_runsInPhase.completes (h2.of_le (by decide))
  have h3 : noFault t3 1 := h2.after a3
  obtain ⟨t5, e5, p5, -⟩ := bringupSoftStart_runsInPhase.completes (h3.of_answer (answer_bringupHardStart t3))
  refine ⟨t2, t3, t5, e2, p2, e3, p3, e5, p5, ?_⟩
  rw [bringupSequence, e2, andThen_done, e3, andThen_done, e5, andThen_done]

/-- The phase of the part that makes the k-th bus call, counted from 0 (R138). -/
def bringupCallPhase (k : Nat) : Phase := if k = 0 then .softReset else if k = 3 then .softStart else .configuring

/-- The sequence ends in the phase of the part whose call is the first that fails. -/
theorem bringupSequence_faults {s : State} {k : Nat} (hk : k < 4) (h : noFault s k)
    (hf : (answer s k).busFault = true) :
    ∃ t, bringupSequence s = .raised .busFault t ∧ t.phase = bringupCallPhase k := by
  have h1 := h.of_answer (answer_upToHardReset s)
  rw [← answer_upToHardReset s k] at hf
  cases k with
  | zero =>
    obtain ⟨t, e, p⟩ := bringupSoftReset_runsInPhase.faults Nat.one_pos h1 hf
    exact ⟨t, by rw [bringupSequence, e, andThen_raised], p⟩
  | succ k =>
    obtain ⟨t2, e2, -, a2⟩ := bringupSoftReset_runsInPhase.completes (h1.of_le (Nat.succ_pos k))
    rw [Nat.add_comm k 1] at h1 hf
    have h2 : noFault t2 k := h1.after a2
    rw [← a2 k] at hf
    by_cases hk2 : k < 2
    · obtain ⟨t, e, p⟩ := bringupConfiguring_runsInPhase.faults hk2 h2 hf
      have hphase : bringupCallPhase (k + 1) = .configuring := by
        rw [bringupCallPhase, if_neg (by omega), if_neg (by omega)]
      exact ⟨t, by rw [bringupSequence, e2, andThen_done, e, andThen_raised], p.trans hphase.symm⟩
    · obtain rfl : k = 2 := by omega
      obtain ⟨t3, e3, -, a3⟩ := bringupConfiguring_runsInPhase.completes h2
      have h3 : noFault t3 0 := h2.after a3
      have hf3 : (answer t3 0).busFault = true := a3 0 ▸ hf
      obtain ⟨t, e, p⟩ := bringupSoftStart_runsInPhase.faults Nat.one_pos
        (h3.of_answer (answer_bringupHardStart t3)) (answer_bringupHardStart t3 0 ▸ hf3)
      exact ⟨t, by rw [bringupSequence, e2, andThen_done, e3, andThen_done, e, andThen_raised], p⟩

end Sys2Proof.Machine
end

section
/-! SUPPORT. The statements about the state: the line discipline over a step, the writers of the registers, the result port, the
phases of BRINGUP, and the trace at reset. -/

namespace Sys2Proof.Machine

/-! ### The step -/

/-- Where no request is accepted, the step is the host's taking alone (R246; log 9). -/
theorem step_waits {s : State} (h : ∀ c ∈ s.pending, accepts s c = false) : step s = .next (hostTakes s) := by
  have hnext : nextAccepted s = none := takeFirst_none.mpr h
  rw [step, runAccepted, nextAccepted_hostTakes, hnext]

theorem hostTakes_of_true {s : State} {later : List Bool} (h : s.taking = true :: later) :
    hostTakes s = { s with resultPort := none, taking := later } := by
  rw [hostTakes, h]

theorem hostTakes_of_false {s : State} {later : List Bool} (h : s.taking = false :: later) :
    hostTakes s = { s with taking := later } := by
  rw [hostTakes, h]

theorem LinesAt.hostTakes {l : LineLevels} {s : State} (h : LinesAt l s) : LinesAt l (hostTakes s) :=
  h.of_same (hostTakes_trace s) (hostTakes_cs s) (hostTakes_rst s) (hostTakes_sync s)

theorem LinesAt.acceptRequest {l : LineLevels} {s : State} (h : LinesAt l s) (before after : List Code) :
    LinesAt l (acceptRequest before after s) :=
  h.of_same rfl rfl rfl rfl

/-- Between operations the lines are idle (R27, R217). -/
theorem LinesFollowTrace.linesAt_idle {s : State} (h : LinesFollowTrace s) (hr : RegistersLegal s) :
    LinesAt idleLevels s :=
  { h with holds := by rw [hr.cs_high, hr.rst_high, hr.sync_high]; rfl }

/-- A step keeps the discipline: it waits, or runs one operation from idle lines. -/
theorem step_linesAt {s t : State} (h : LinesAt idleLevels s) (hstep : step s = .next t) : LinesAt idleLevels t := by
  rcases step_cases s with ⟨-, hs⟩ | ⟨before, c, after, e, -, -, hs⟩ | ⟨before, c, after, i, -, -, hs⟩
  · rw [hs] at hstep
    cases hstep
    exact h.hostTakes
  · rw [hs] at hstep
    cases hstep
  · exact exec_linesAt (h.hostTakes.acceptRequest before after) (hs ▸ hstep)

/-! ### The statements -/

/-- Settles O51: between operations the lines are idle, and from idle lines a step keeps the discipline. -/
theorem stepKeepsLineDiscipline : Obligations.StepKeepsLineDiscipline :=
  fun _ _ hr h hstep => (step_linesAt (h.linesAt_idle hr) hstep).toLinesFollowTrace

/-- Settles O33: an operation is a procedure concluded, and an error is presented with data 0. -/
theorem errorDataZero : Obligations.ErrorDataZero := by
  intro i s t r hrun hport hstatus
  obtain ⟨b, f, hexec, -⟩ := exec_concludes s i
  rw [hexec] at hrun
  cases hrun
  obtain ⟨r', hport', hr'⟩ := conclude_resultPort b f
  obtain rfl : r' = r := Option.some.inj (hport'.symm.trans hport)
  exact hr'.resolve_left hstatus

/-- Settles O37: the combination of registers and lines that the inversion lemma of `exec` gives names its writer. -/
theorem registerWriters : Obligations.RegisterWriters := by
  intro i s t hrun
  obtain ⟨write, events, questions, r, hw, rfl⟩ := exec_next hrun
  cases hw with
  | none | closed => exact ⟨fun _ => ⟨rfl, rfl, rfl⟩, fun _ _ => rfl, fun _ _ => ⟨rfl, rfl⟩⟩
  | chan _ => exact ⟨fun _ => ⟨rfl, rfl, rfl⟩, fun _ hno => absurd rfl (hno _), fun _ _ => ⟨rfl, rfl⟩⟩
  | reference => exact ⟨fun _ => ⟨rfl, rfl, rfl⟩, fun _ _ => rfl, fun _ hno => absurd rfl (hno _)⟩
  | bringup _ => exact ⟨fun hno => absurd rfl hno, fun hno => absurd rfl hno, fun hno => absurd rfl hno⟩

/-- The end of an operation replaces what the result port held (R30). -/
theorem afterOperation_of_resultPort (events : List Event) (questions : Nat) (r : Result) (s : State)
    (p : Option Result) :
    afterOperation events questions r { s with resultPort := p } = afterOperation events questions r s := rfl

/-- Settles O53: a waiting step is the host's taking, and an operation overwrites the port without reading it. -/
theorem resultNotKeptOnceTaken : Obligations.ResultNotKeptOnceTaken := by
  refine ⟨fun s later ht hp => ?_, fun s later ht hp => ?_, fun i s p => ?_⟩
  · rw [step_waits hp, hostTakes_of_true ht]
  · rw [step_waits hp, hostTakes_of_false ht]
  · obtain ⟨write, events, questions, r, -, hrun⟩ := exec_endsFrom s i
    rw [hrun s (.refl s), hrun { s with resultPort := p } ⟨rfl, rfl, rfl, rfl⟩, afterOperation_of_resultPort]

/-- Settles O17: each part of the sequence runs in its own phase, from the state the part before it left. -/
theorem bringupPhaseWalk : Obligations.BringupPhaseWalk := by
  refine fun s => ⟨fun h => ?_, fun k hk h hf => bringupSequence_faults hk h hf, bringupHardReset_phase s,
    bringupSoftReset_runsInPhase.phase s, bringupConfiguring_runsInPhase.phase s, bringupHardStart_phase s,
    bringupSoftStart_runsInPhase.phase s, fun _ _ => bringupSequence_done_phase⟩
  obtain ⟨t2, t3, t5, e2, p2, e3, p3, e5, p5, hseq⟩ := bringupSequence_walks h
  exact ⟨_, t2, t3, _, t5, rfl, bringupHardReset_phase _, e2, p2, e3, p3, rfl, bringupHardStart_phase _, e5, p5, hseq⟩

/-- Settles O50: the trace of block reset is empty, and the three line registers are high as the idle levels are (R240). -/
theorem resetTraceLegal : Obligations.ResetTraceLegal := ⟨⟨rfl, rfl⟩, rfl⟩

end Sys2Proof.Machine
end

section
/-! SUPPORT. The frame formats (R50, R56, R84): one operation appends closed frames of legal forms, and events outside frames
that are no bus call; and a frame presented directly, of a length no format has. -/

namespace Sys2Proof.Machine

/-! ### Splitting a trace into frames -/

/-- What stands behind a trace that ends outside frames is judged by itself. -/
theorem framesLegal_append {c : Config} {body : Option (List Event)} {es : List Event}
    (h : framesLegal c body es = true) (fs : List Event) : framesLegal c body (es ++ fs) = framesLegal c none fs := by
  induction es generalizing body with
  | nil =>
    cases body with
    | none => rfl
    | some _ => cases h
  | cons e es ih =>
    cases body with
    | none =>
      cases e with
      | line l v =>
        cases l with
        | cs =>
          cases v with
          | false | true => exact ih h
        | rst | sync => exact ih h
      | delay _ | drdySample _ => exact ih h
      | busWrite _ | busXchg _ _ | busFault _ => cases h
    | some body =>
      cases e with
      | line l v =>
        cases l with
        | cs =>
          cases v with
          | false => cases h
          | true =>
            obtain ⟨hbody, hes⟩ := Bool.and_eq_true_iff.mp h
            calc framesLegal c (some body) (.line .cs true :: es ++ fs)
                = (isFrameBody c body && framesLegal c none (es ++ fs)) := rfl
              _ = framesLegal c none fs := by rw [hbody, ih hes, Bool.true_and]
        | rst | sync => cases h
      | delay _ | drdySample _ => cases h
      | busWrite _ | busXchg _ _ | busFault _ => exact ih h

theorem framesLegal_writeEvents {c : Config} {bytes : List Byte} (h : isFrameBody c [.busWrite bytes] = true) :
    framesLegal c none (writeEvents bytes) = true := by
  simp [writeEvents, framesLegal, h]

theorem framesLegal_freewheelEvents (c : Config) (m : EnvMoment) :
    framesLegal c none (freewheelEvents c m) = true := by
  simp [freewheelEvents, framesLegal, isFrameBody, misoBytes]

theorem framesLegal_rdataEvents (c : Config) (m : EnvMoment) : framesLegal c none (rdataEvents c m) = true := by
  simp [rdataEvents, framesLegal, isFrameBody, misoBytes]

theorem framesLegal_rdataFaultEvents (c : Config) : framesLegal c none (rdataFaultEvents c) = true := by
  simp [rdataFaultEvents, framesLegal, isFrameBody]

/-- The trace splits into closed frames of legal forms and events outside frames that are no bus call. -/
structure TraceLegal (s : State) : Prop where
  splits : framesLegal s.cfg none s.trace = true

/-- A procedure leaves a legal trace: run to its end, or, where it raises, after the clean-up of R216. -/
def EndsLegal {α : Type} : Flow α → Prop
  | .done _ t => TraceLegal t
  | .raised x t => TraceLegal (raiseCleanup false x t)

section
variable {s t : State} {es : List Event}

/-- The frame formats speak of the trace and the parameters alone. -/
theorem TraceLegal.of_same (h : TraceLegal s) (hcfg : t.cfg = s.cfg) (htrace : t.trace = s.trace) : TraceLegal t where
  splits := by rw [hcfg, htrace, h.splits]

theorem TraceLegal.append (h : TraceLegal s) (hes : framesLegal s.cfg none es = true) (hcfg : t.cfg = s.cfg)
    (htrace : t.trace = s.trace ++ es) : TraceLegal t where
  splits := by rw [hcfg, htrace, framesLegal_append h.splits, hes]

/-- R216 item 2: the clean-up closes a frame that a bus fault cut short. -/
theorem TraceLegal.append_cut_short {α : Type} (h : TraceLegal s)
    (hes : framesLegal s.cfg none (es ++ [.line .cs true]) = true) (hcfg : t.cfg = s.cfg)
    (htrace : t.trace = s.trace ++ es) (hcs : t.cs = false) : EndsLegal (.raised .busFault t : Flow α) := by
  have hclose : raiseCleanup false .busFault t = driveLine .cs true t := closeFrame_open t hcs
  rw [EndsLegal, hclose]
  exact h.append hes hcfg (by simp [htrace])

theorem TraceLegal.setPhase (h : TraceLegal s) (p : Phase) : TraceLegal (setPhase p s) := h.of_same rfl rfl

theorem TraceLegal.delay (h : TraceLegal s) (p : DelayName) : TraceLegal (delay p s) :=
  h.append (es := [.delay p]) rfl rfl rfl

theorem EndsLegal.done {α : Type} (a : α) (h : TraceLegal t) : EndsLegal (.done a t) := h

/-- Only a bus fault leaves anything to clean up (R216). -/
theorem EndsLegal.raised {α : Type} {x : Status} (hx : x ≠ .busFault) (h : TraceLegal t) :
    EndsLegal (.raised x t : Flow α) := by
  cases x with
  | ok | invalidChannel | dataNotReady | illegalOp => exact h
  | busFault => exact absurd rfl hx

theorem EndsLegal.andThen {α β : Type} {f : Flow α} {g : α → State → Flow β} (hf : EndsLegal f)
    (hg : ∀ a t, TraceLegal t → EndsLegal (g a t)) : EndsLegal (f.andThen g) := by
  cases f with
  | done a t => exact hg a t hf
  | raised x t => exact hf

/-! ### Transactions and read procedures -/

/-- A frame of one write whose bytes have a format (R114, R115), or of the fault in its place. -/
theorem inFrame_busWrite_endsLegal {bytes : List Byte} (h : TraceLegal s)
    (hbody : isFrameBody s.cfg [.busWrite bytes] = true) : EndsLegal (inFrame (busWrite bytes) s) := by
  cases hf : (answer s 0).busFault with
  | false =>
    rw [inFrame, busWrite_ok _ _ (by simpa using hf), andThen_done]
    exact h.append (framesLegal_writeEvents hbody) (by simp) (by simp [writeEvents])
  | true =>
    rw [inFrame, busWrite_fault _ _ (by simpa using hf), andThen_raised]
    exact h.append_cut_short (es := [.line .cs false, .busFault .write]) rfl (by simp) (by simp) (by simp)

theorem sendCmd_endsLegal (h : TraceLegal s) (code : Byte) : EndsLegal (sendCmd code s) :=
  inFrame_busWrite_endsLegal h rfl

theorem writeReg_endsLegal (h : TraceLegal s) (r : RegAddr) (v : Byte) : EndsLegal (writeReg r v s) :=
  inFrame_busWrite_endsLegal h rfl

theorem rawFreewheel_endsLegal (h : TraceLegal s) : EndsLegal (rawFreewheel s) := by
  cases hf : (answer s 0).busFault with
  | false =>
    rw [rawFreewheel_ok s hf]
    exact h.append (framesLegal_freewheelEvents s.cfg (answer s 0)) (by simp) (by simp [freewheelEvents])
  | true =>
    rw [rawFreewheel_fault s hf]
    exact h.append_cut_short (es := [.line .cs false, .busFault .exchange]) rfl (by simp) (by simp) (by simp)

theorem rdataFrame_endsLegal (h : TraceLegal s) : EndsLegal (rdataFrame s) := by
  cases h0 : (answer s 0).busFault with
  | true =>
    rw [rdataFrame_write_fault s h0]
    exact h.append_cut_short (es := [.line .cs false, .busFault .write]) rfl (by simp) (by simp) (by simp)
  | false =>
    cases h1 : (answer s 1).busFault with
    | true =>
      rw [rdataFrame_exchange_fault s h0 h1]
      exact h.append_cut_short (es := [.line .cs false, .busWrite [s.cfg.cmdRdata], .busFault .exchange])
        (framesLegal_rdataFaultEvents s.cfg) (by simp) (by simp) (by simp)
    | false =>
      rw [rdataFrame_ok s h0 h1]
      exact h.append (framesLegal_rdataEvents s.cfg (answer s 1)) (by simp) (by simp [rdataEvents])

theorem sampleDrdy_endsLegal (h : TraceLegal s) : EndsLegal (sampleDrdy s) :=
  h.append (es := [.drdySample (drdyAsserted s.cfg (answer s 0))]) rfl rfl rfl

theorem rawRdata_endsLegal (h : TraceLegal s) : EndsLegal (rawRdata s) :=
  (sampleDrdy_endsLegal h).andThen fun v t ht => by
    cases v with
    | false => exact .raised (by decide) ht
    | true => exact rdataFrame_endsLegal ht

theorem rawByPath_endsLegal (h : TraceLegal s) (p : ReadPath) : EndsLegal (rawByPath p s) := by
  cases p with
  | freewheel => exact rawFreewheel_endsLegal h
  | rdata => exact rawRdata_endsLegal h

theorem setChannel_endsLegal (h : TraceLegal s) (ch : BitVec 32) : EndsLegal (setChannel ch s) := by
  unfold setChannel
  split
  · exact (writeReg_endsLegal h _ _).andThen fun _ _ ht => ht.of_same rfl rfl
  · exact .raised (by decide) h

theorem setReference_endsLegal (h : TraceLegal s) (v : Volts) : EndsLegal (setReference v s) :=
  (writeReg_endsLegal h _ _).andThen fun _ _ ht => ht.of_same rfl rfl

/-! ### BRINGUP -/

theorem bringupDefaults_traceLegal (h : TraceLegal s) : TraceLegal (bringupDefaults s) := h.of_same rfl rfl

theorem bringupHardReset_traceLegal (h : TraceLegal s) : TraceLegal (bringupHardReset s) :=
  h.append (es := bringupEvents1) rfl (by simp [bringupHardReset]) (by simp [bringupHardReset, bringupEvents1])

theorem bringupHardStart_traceLegal (h : TraceLegal s) : TraceLegal (bringupHardStart s) :=
  h.append (es := bringupEvents5) rfl (by simp [bringupHardStart]) (by simp [bringupHardStart, bringupEvents5])

theorem bringupSoftReset_endsLegal (h : TraceLegal s) : EndsLegal (bringupSoftReset s) :=
  (sendCmd_endsLegal (h.setPhase .softReset) _).andThen fun _ _ ht => ht.delay .postReset

theorem bringupConfiguring_endsLegal (h : TraceLegal s) : EndsLegal (bringupConfiguring s) :=
  (writeReg_endsLegal (h.setPhase .configuring) _ _).andThen fun _ _ ht => writeReg_endsLegal ht _ _

theorem bringupSoftStart_endsLegal (h : TraceLegal s) : EndsLegal (bringupSoftStart s) :=
  (sendCmd_endsLegal (h.setPhase .softStart) _).andThen fun _ _ ht => ht.delay .interCmd

theorem bringupSequence_endsLegal (h : TraceLegal s) : EndsLegal (bringupSequence s) :=
  (bringupSoftReset_endsLegal (bringupHardReset_traceLegal (bringupDefaults_traceLegal h))).andThen fun _ _ h3 =>
    (bringupConfiguring_endsLegal h3).andThen fun _ _ h4 =>
      (bringupSoftStart_endsLegal (bringupHardStart_traceLegal h4)).andThen fun _ _ h6 => h6.setPhase .ready

/-! ### Whole operations -/

theorem startOperation_traceLegal (h : TraceLegal s) : TraceLegal (startOperation s) := h.of_same rfl rfl

theorem conclude_traceLegal {f : Flow Data} (h : EndsLegal f) (b : Bool) : TraceLegal (conclude b f) := by
  cases f with
  | done d t => exact h.of_same rfl rfl
  | raised x t =>
    cases b with
    | false => exact h.of_same rfl rfl
    | true =>
      cases x with
      | ok | invalidChannel | dataNotReady | illegalOp | busFault => exact h.of_same rfl rfl

/-- An operation that runs a transaction or a read procedure and answers what `g` makes of its value. -/
theorem conclude_andThen_traceLegal {α : Type} {f : Flow α} (hf : EndsLegal f) (g : α → Data) :
    TraceLegal (conclude false (f.andThen fun a t => .done (g a) t)) :=
  conclude_traceLegal (f := f.andThen fun a t => .done (g a) t) (hf.andThen fun _ _ ht => ht) false

theorem sendCommandFrame_traceLegal (h : TraceLegal s) (code : Byte) : TraceLegal (sendCommandFrame code s) :=
  conclude_andThen_traceLegal (sendCmd_endsLegal (startOperation_traceLegal h) code) fun _ => 0

theorem sendRegisterFrame_traceLegal (h : TraceLegal s) (r : RegAddr) (v : Byte) :
    TraceLegal (sendRegisterFrame r v s) :=
  conclude_andThen_traceLegal (writeReg_endsLegal (startOperation_traceLegal h) r v) fun _ => 0

/-- Every operation ends with a legal trace where it begins with one. -/
theorem exec_traceLegal (h : TraceLegal s) (i : Instr) : ∃ t, exec i s = .next t ∧ TraceLegal t := by
  have hstart := startOperation_traceLegal h
  cases i with
  | bringup => exact ⟨_, rfl, conclude_traceLegal (bringupSequence_endsLegal hstart) true⟩
  | encodeWrite _ _ | encodeCommand _ => exact ⟨_, rfl, conclude_traceLegal (.done _ hstart) false⟩
  | reservedAB _ | reservedCF _ => exact ⟨_, rfl, conclude_traceLegal (.raised (by decide) hstart) false⟩
  | setChannel ch => exact ⟨_, rfl, conclude_traceLegal (setChannel_endsLegal hstart ch) false⟩
  | setReference v => exact ⟨_, rfl, conclude_traceLegal (setReference_endsLegal hstart v) false⟩
  | isDataReady => exact ⟨_, rfl, conclude_andThen_traceLegal (sampleDrdy_endsLegal hstart) _⟩
  | readRaw | rd3 => exact ⟨_, rfl, conclude_andThen_traceLegal (rawFreewheel_endsLegal hstart) _⟩
  | readRdata => exact ⟨_, rfl, conclude_andThen_traceLegal (rawRdata_endsLegal hstart) _⟩
  | readInt p | readVolt p => exact ⟨_, rfl, conclude_andThen_traceLegal (rawByPath_endsLegal hstart p) _⟩
  | cmdNop | cmdWakeup | cmdPowerdown | cmdReset | cmdStart | cmdStop | cmdSyocal | cmdSygcal | cmdSfocal | cmdRreg =>
    exact ⟨_, rfl, sendCommandFrame_traceLegal h _⟩
  | wreg _ _ | wregInpmux _ _ | wregRef _ => exact ⟨_, rfl, sendRegisterFrame_traceLegal h _ _⟩
  | rdata4 => exact ⟨_, rfl, conclude_andThen_traceLegal (rdataFrame_endsLegal hstart) _⟩

theorem TraceLegal.acceptRequest (h : TraceLegal s) (before after : List Code) :
    TraceLegal (acceptRequest before after s) :=
  h.of_same rfl rfl

theorem TraceLegal.hostTakes (h : TraceLegal s) : TraceLegal (hostTakes s) :=
  h.of_same (hostTakes_cfg s) (hostTakes_trace s)

end

/-! ### Frames of no format -/

/-- R84: the formats have 1, 3 and 4 bytes. -/
theorem decodeFrame_of_noSuchLength (c : Config) {bytes : List Byte} (h1 : bytes.length ≠ 1) (h3 : bytes.length ≠ 3)
    (h4 : bytes.length ≠ 4) : decodeFrame c bytes = .error (.noSuchLength bytes.length) := by
  unfold decodeFrame
  split
  · exact absurd rfl h1
  · exact absurd rfl h3
  · exact absurd rfl h4
  · rfl

/-- A frame that is no row waits for nothing but an idle block (R246; log 14). -/
theorem accepts_of_decode_error {s : State} {c : Code} {e : DecodeError} (hbusy : s.busy = false)
    (hd : decode s.cfg c = .error e) : accepts s c = true := by
  simp [accepts, phaseAdmits, hbusy, hd]

/-! ### The statements -/

/-- Settles O52: a step waits, or runs one operation, and either keeps the trace legal. -/
theorem stepKeepsFramesLegal : Obligations.StepKeepsFramesLegal := by
  intro s t h hstep
  have htaken : TraceLegal (hostTakes s) := .hostTakes ⟨h⟩
  rcases step_cases s with ⟨-, hs⟩ | ⟨before, c, after, e, -, -, hs⟩ | ⟨before, c, after, i, -, -, hs⟩
  · rw [hs] at hstep
    cases hstep
    exact htaken.splits
  · rw [hs] at hstep
    cases hstep
  · obtain ⟨u, hu, hlegal⟩ := exec_traceLegal (htaken.acceptRequest before after) i
    rw [hs, hu] at hstep
    cases hstep
    exact hlegal.splits

/-- Settles O45: the frame is accepted and stands first, and its length decodes to no row. -/
theorem frameOfNoFormatStops : Obligations.FrameOfNoFormatStops := by
  intro s bytes rest hbusy hp h1 h3 h4
  have hd : decode s.cfg (.frame bytes) = .error (.noSuchLength bytes.length) :=
    decodeFrame_of_noSuchLength s.cfg h1 h3 h4
  have hnext : nextAccepted s = some ([], .frame bytes, rest) := by
    rw [nextAccepted, hp, takeFirst, if_pos (accepts_of_decode_error hbusy hd)]
  simp [step, runAccepted, nextAccepted_hostTakes, hnext, hd]

end Sys2Proof.Machine
end

section
/-! SUPPORT. Host request words, row by row: what `decodeRequest` makes of a word put together from its operation code and
`arg` (R80 to R82), and that every word is put together so for one of the twelve rows of the opcode table. -/

namespace Sys2Proof

/-! ### The decoder on the words of each row -/

section
variable (arg : BitVec 32)

@[simp] theorem decodeRequest_bringup : decodeRequest (0x0#4 ++ arg) = .bringup := by simp [decodeRequest]
@[simp] theorem decodeRequest_encodeWrite :
    decodeRequest (0x1#4 ++ arg) = .encodeWrite (arg.extractLsb' 8 5) (arg.extractLsb' 0 8) := by simp [decodeRequest]
@[simp] theorem decodeRequest_encodeCommand :
    decodeRequest (0x2#4 ++ arg) = .encodeCommand (arg.extractLsb' 0 8) := by simp [decodeRequest]
@[simp] theorem decodeRequest_setChannel : decodeRequest (0x3#4 ++ arg) = .setChannel arg := by simp [decodeRequest]
@[simp] theorem decodeRequest_setReference : decodeRequest (0x4#4 ++ arg) = .setReference arg := by
  simp [decodeRequest]
@[simp] theorem decodeRequest_isDataReady : decodeRequest (0x5#4 ++ arg) = .isDataReady := by simp [decodeRequest]
@[simp] theorem decodeRequest_readRaw : decodeRequest (0x6#4 ++ arg) = .readRaw := by simp [decodeRequest]
@[simp] theorem decodeRequest_readRdata : decodeRequest (0x7#4 ++ arg) = .readRdata := by simp [decodeRequest]
@[simp] theorem decodeRequest_readInt :
    decodeRequest (0x8#4 ++ arg) = .readInt (pathOfBit (arg.extractLsb' 0 1)) := by simp [decodeRequest]
@[simp] theorem decodeRequest_readVolt :
    decodeRequest (0x9#4 ++ arg) = .readVolt (pathOfBit (arg.extractLsb' 0 1)) := by simp [decodeRequest]

/-- The operand of a reserved row is read from the operation code (R92 item a). -/
theorem extractLsb'_op_append (o : BitVec 4) (n : Nat) : (o ++ arg).extractLsb' 32 n = o.extractLsb' 0 n :=
  BitVec.extractLsb'_append_eq_of_le (Nat.le_refl 32)

@[simp] theorem decodeRequest_reservedAB (low : BitVec 1) :
    decodeRequest ((0b101#3 ++ low) ++ arg) = .reservedAB low := by
  have hcode : ∀ l : BitVec 1, (0b101#3 ++ l).toNat = 10 ∨ (0b101#3 ++ l).toNat = 11 := by decide
  have hlow : (0b101#3 ++ low).extractLsb' 0 1 = low := BitVec.extractLsb'_append_eq_right
  rcases hcode low with h | h <;> simp [decodeRequest, h, extractLsb'_op_append, hlow]

@[simp] theorem decodeRequest_reservedCF (low : BitVec 2) :
    decodeRequest ((0b11#2 ++ low) ++ arg) = .reservedCF low := by
  have hcode : ∀ l : BitVec 2, (0b11#2 ++ l).toNat = 12 ∨ (0b11#2 ++ l).toNat = 13 ∨ (0b11#2 ++ l).toNat = 14
      ∨ (0b11#2 ++ l).toNat = 15 := by decide
  have hlow : (0b11#2 ++ low).extractLsb' 0 2 = low := BitVec.extractLsb'_append_eq_right
  rcases hcode low with h | h | h | h <;> simp [decodeRequest, h, extractLsb'_op_append, hlow]

end

/-! ### Every request word belongs to one row -/

/-- The operation codes of the twelve host rows (R81, R92 item a) are all the codes there are. -/
theorem op_eq_code_of_row (o : BitVec 4) :
    o = 0x0#4 ∨ o = 0x1#4 ∨ o = 0x2#4 ∨ o = 0x3#4 ∨ o = 0x4#4 ∨ o = 0x5#4 ∨ o = 0x6#4 ∨ o = 0x7#4 ∨ o = 0x8#4 ∨ o = 0x9#4
      ∨ (∃ low : BitVec 1, o = 0b101#3 ++ low) ∨ ∃ low : BitVec 2, o = 0b11#2 ++ low := by
  revert o
  decide

/-- A request word is its two fields (R80). -/
theorem op_append_arg (w : RequestWord) : RequestWord.op w ++ RequestWord.arg w = w :=
  BitVec.extractLsb'_append_extractLsb' (w := 4) (len := 32)

/-- Case split on the row of a request word: what holds of the words of each of the twelve rows holds of every word. -/
theorem requestWord_rows {motive : RequestWord → Prop}
    (bringup : ∀ arg : BitVec 32, motive (0x0#4 ++ arg))
    (encodeWrite : ∀ arg : BitVec 32, motive (0x1#4 ++ arg))
    (encodeCommand : ∀ arg : BitVec 32, motive (0x2#4 ++ arg))
    (setChannel : ∀ arg : BitVec 32, motive (0x3#4 ++ arg))
    (setReference : ∀ arg : BitVec 32, motive (0x4#4 ++ arg))
    (isDataReady : ∀ arg : BitVec 32, motive (0x5#4 ++ arg))
    (readRaw : ∀ arg : BitVec 32, motive (0x6#4 ++ arg))
    (readRdata : ∀ arg : BitVec 32, motive (0x7#4 ++ arg))
    (readInt : ∀ arg : BitVec 32, motive (0x8#4 ++ arg))
    (readVolt : ∀ arg : BitVec 32, motive (0x9#4 ++ arg))
    (reservedAB : ∀ (low : BitVec 1) (arg : BitVec 32), motive ((0b101#3 ++ low) ++ arg))
    (reservedCF : ∀ (low : BitVec 2) (arg : BitVec 32), motive ((0b11#2 ++ low) ++ arg))
    (w : RequestWord) : motive w := by
  rw [← op_append_arg w]
  rcases op_eq_code_of_row (RequestWord.op w) with
    h | h | h | h | h | h | h | h | h | h | ⟨low, h⟩ | ⟨low, h⟩ <;> rw [h]
  · exact bringup _
  · exact encodeWrite _
  · exact encodeCommand _
  · exact setChannel _
  · exact setReference _
  · exact isDataReady _
  · exact readRaw _
  · exact readRdata _
  · exact readInt _
  · exact readVolt _
  · exact reservedAB low _
  · exact reservedCF low _

/-! ### The fields of `arg` -/

/-- A field put in the low bits and read there again. -/
theorem extractLsb'_setWidth_self {n m : Nat} (h : n ≤ m) (x : BitVec n) : (x.setWidth m).extractLsb' 0 n = x := by
  rw [BitVec.extractLsb'_setWidth_of_le (by omega), BitVec.extractLsb'_eq_self]

/-- The low `n` bits read as a field and put in the low bits again: the word with its other bits zero. -/
theorem setWidth_extractLsb'_eq_and {n w : Nat} (x : BitVec w) :
    (x.extractLsb' 0 n).setWidth w = x &&& BitVec.ofNat w (2 ^ n - 1) := by
  ext i hi
  simp [BitVec.getElem_eq_testBit_toNat, Nat.testBit_mod_two_pow, Nat.testBit_two_pow_sub_one, hi, Bool.and_comm]

/-- ENCODE_WRITE's `arg` as the encoder builds it holds the register in bits 12 to 8 … -/
theorem writeArg_register (r : RegAddr) (v : Byte) : ((0 : BitVec 19) ++ r ++ v).extractLsb' 8 5 = r := by
  rw [BitVec.extractLsb'_append_eq_of_le (Nat.le_refl 8)]
  exact BitVec.extractLsb'_append_eq_right

/-- … and the value in bits 7 to 0 (R82). -/
theorem writeArg_value (r : RegAddr) (v : Byte) : ((0 : BitVec 19) ++ r ++ v).extractLsb' 0 8 = v :=
  BitVec.extractLsb'_append_eq_right

/-- ENCODE_WRITE's two fields put together again: `arg` with bits 31 to 13 zero (R82). -/
theorem writeArg_fields (arg : BitVec 32) :
    (0 : BitVec 19) ++ arg.extractLsb' 8 5 ++ arg.extractLsb' 0 8 = arg &&& 0x1FFF :=
  calc (0 : BitVec 19) ++ arg.extractLsb' 8 5 ++ arg.extractLsb' 0 8
      = (0 : BitVec 19) ++ (arg.extractLsb' 8 5 ++ arg.extractLsb' 0 8) := BitVec.append_assoc
    _ = (0 : BitVec 19) ++ arg.extractLsb' 0 13 := by
      rw [BitVec.extractLsb'_append_extractLsb'_eq_extractLsb' (by decide)]
    _ = (arg.extractLsb' 0 13).setWidth 32 := by
      rw [BitVec.setWidth_eq_append_extractLsb']
      exact congrArg ((0 : BitVec 19) ++ ·) BitVec.extractLsb'_eq_self.symm
    _ = arg &&& 0x1FFF := setWidth_extractLsb'_eq_and arg

theorem bitOfPath_pathOfBit (b : BitVec 1) : bitOfPath (pathOfBit b) = b := by
  revert b
  decide

/-- The path operand as the bit of `arg` it is read from (R82). -/
theorem pathOfBit_extractLsb' (arg : BitVec 32) :
    pathOfBit (arg.extractLsb' 0 1) = if arg.getLsbD 0 then .rdata else .freewheel := by
  have hbit : ∀ b : BitVec 1, pathOfBit b = if b.getLsbD 0 then .rdata else .freewheel := by decide
  rw [hbit, BitVec.getLsbD_extractLsb']
  rfl

/-! ### The statements about request words -/

/-- Settles O2, row by row: the decoder's equation for the row, and each operand field read back from where the encoder put
it. Four rows have no operand and so one word each. -/
theorem hostRequestsRoundTrip : Obligations.HostRequestsRoundTrip := by
  intro c i hhost
  cases i with
  | bringup | isDataReady | readRaw | readRdata => rfl
  | setChannel _ | setReference _ | reservedAB _ | reservedCF _ => simp [encode, requestOf]
  | encodeWrite r v =>
    exact (congrArg Except.ok (decodeRequest_encodeWrite _)).trans (by rw [writeArg_register, writeArg_value])
  | encodeCommand b =>
    exact (congrArg Except.ok (decodeRequest_encodeCommand _)).trans (by rw [extractLsb'_setWidth_self (by decide)])
  | readInt p =>
    exact (congrArg Except.ok (decodeRequest_readInt _)).trans
      (by rw [extractLsb'_setWidth_self (by decide), pathOfBit_bitOfPath])
  | readVolt p =>
    exact (congrArg Except.ok (decodeRequest_readVolt _)).trans
      (by rw [extractLsb'_setWidth_self (by decide), pathOfBit_bitOfPath])
  | _ => cases hhost

/-- Settles O5, by the row of the word: the operation code of a reserved row is at least 0xA, that of any other below. -/
theorem reservedCodesExactly : Obligations.ReservedCodesExactly := by
  intro w
  cases w using requestWord_rows with
  | reservedAB low arg =>
    have hcode : ∀ l : BitVec 1, 0xA ≤ (0b101#3 ++ l).toNat := by decide
    rw [op_append]
    exact ⟨fun _ => .inl ⟨low, decodeRequest_reservedAB arg low⟩, fun _ => hcode low⟩
  | reservedCF low arg =>
    have hcode : ∀ l : BitVec 2, 0xA ≤ (0b11#2 ++ l).toNat := by decide
    rw [op_append]
    exact ⟨fun _ => .inr ⟨low, decodeRequest_reservedCF arg low⟩, fun _ => hcode low⟩
  | _ => simp

/-- Settles O6, by the row of the word: each operand is encoded into the bits it was decoded from, and the mask of the row
keeps just those. -/
theorem requestWordsReencode : Obligations.RequestWordsReencode := by
  intro c w
  cases w using requestWord_rows with
  | encodeWrite arg =>
    rw [decodeRequest_encodeWrite, encode, writeArg_fields, op_append, arg_append]
    rfl
  | encodeCommand arg | readInt arg | readVolt arg =>
    simp only [decodeRequest_encodeCommand, decodeRequest_readInt, decodeRequest_readVolt, encode, bitOfPath_pathOfBit,
      setWidth_extractLsb'_eq_and, op_append, arg_append]
    rfl
  | setChannel arg =>
    rw [decodeRequest_setChannel, encode, op_append, arg_append]
    exact congrArg (requestOf 0x3) BitVec.and_allOnes.symm
  | setReference arg =>
    rw [decodeRequest_setReference, encode, op_append, arg_append]
    exact congrArg (requestOf 0x4) BitVec.and_allOnes.symm
  | reservedAB low arg =>
    have hmask : ∀ l : BitVec 1, Machine.usedArgBits (0b101#3 ++ l) = 0 := by decide
    simp [encode, requestOf, hmask]
  | reservedCF low arg =>
    have hmask : ∀ l : BitVec 2, Machine.usedArgBits (0b11#2 ++ l) = 0 := by decide
    simp [encode, requestOf, hmask]
  | bringup | isDataReady | readRaw | readRdata => simp [encode, requestOf, Machine.usedArgBits]

/-- Settles O1: each word and each frame evaluated. -/
theorem writtenWordsDecode : Obligations.WrittenWordsDecode :=
  ⟨rfl, rfl, rfl, rfl, rfl, rfl, rfl, rfl, rfl, rfl, rfl, rfl⟩

/-- Settles O4: the decoder's equations for the ten operation codes. -/
theorem operandAssembly : Obligations.OperandAssembly := fun arg =>
  ⟨decodeRequest_bringup arg, decodeRequest_encodeWrite arg, decodeRequest_encodeCommand arg, decodeRequest_setChannel arg,
    decodeRequest_setReference arg, decodeRequest_isDataReady arg, decodeRequest_readRaw arg, decodeRequest_readRdata arg,
    pathOfBit_extractLsb' arg ▸ decodeRequest_readInt arg, pathOfBit_extractLsb' arg ▸ decodeRequest_readVolt arg⟩

/-! ### The input-multiplexer value -/

/-- The input-multiplexer value is its two nibbles side by side (R90). -/
theorem inpmuxWith_eq_append (low ch : BitVec 4) : inpmuxWith low ch = ch ++ low := by
  have h := BitVec.extractLsb'_append_extractLsb' (w := 4) (len := 4) (x := inpmuxWith low ch)
  rw [inpmuxWith_high, inpmuxWith_low] at h
  exact h.symm

/-- Settles O7: the nibbles are the two operands, and so the number has them as its digits to the base 16. -/
theorem inputMuxValue : Obligations.InputMuxValue := by
  intro c ch _
  refine ⟨rfl, inpmuxWith_high _ ch, inpmuxWith_low _ ch, ?_⟩
  rw [inpmux, inpmuxWith_eq_append, BitVec.toNat_append, ← Nat.shiftLeft_add_eq_or_of_lt c.negInputSelect.isLt,
    Nat.shiftLeft_eq, Nat.mul_comm]

end Sys2Proof
end

section
/-! SUPPORT. The statements about the wire rows run on their own (log 11): each row is a command frame, a register frame or a
sample read, whose outcomes are lemmas about the operations. -/

namespace Sys2Proof.Machine

variable {s : State}

/-- A CMD1 row sends its code (R85, R115). -/
theorem exec_of_mem_commandRows {code : Byte} {i : Instr} (h : (code, i) ∈ commandRows s.cfg) :
    exec i s = .next (sendCommandFrame code s) := by
  simp only [commandRows, List.mem_cons, List.not_mem_nil, Prod.mk.injEq, or_false] at h
  rcases h with ⟨rfl, rfl⟩ | ⟨rfl, rfl⟩ | ⟨rfl, rfl⟩ | ⟨rfl, rfl⟩ | ⟨rfl, rfl⟩ | ⟨rfl, rfl⟩ | ⟨rfl, rfl⟩ | ⟨rfl, rfl⟩
    | ⟨rfl, rfl⟩ | ⟨rfl, rfl⟩ <;> rfl

/-- The WREG3 rows send a register and a value (R86, R114). -/
theorem exec_wreg (r : RegAddr) (v : Byte) : exec (.wreg r v) s = .next (sendRegisterFrame r v s) := rfl
theorem exec_wregInpmux (ch neg : BitVec 4) :
    exec (.wregInpmux ch neg) s = .next (sendRegisterFrame s.cfg.regInpmux (ch ++ neg) s) := by
  rw [← inpmuxWith_eq_append]
  rfl
theorem exec_wregRef (p : Byte) : exec (.wregRef p) s = .next (sendRegisterFrame s.cfg.regRef p s) := rfl

/-- Settles O29: the ten rows are those of `commandRows`, and each is one command frame. -/
theorem commandFramesSend : Obligations.CommandFramesSend := by
  intro s i code hrow
  have hswap : (i, code) ∈ (commandRows s.cfg).map Prod.swap := hrow
  obtain ⟨_, hmem, rfl, rfl⟩ := List.mem_map.mp hswap
  rw [exec_of_mem_commandRows hmem]
  exact ⟨fun h => by rw [sendCommandFrame_ok _ h], fun h => by rw [sendCommandFrame_fault _ h]⟩

/-- Settles O30: each of the three rows is one register frame. -/
theorem registerFramesSend : Obligations.RegisterFramesSend := by
  intro s r v p ch neg
  rw [exec_wreg, exec_wregInpmux, exec_wregRef]
  constructor
  · intro h
    rw [sendRegisterFrame_ok _ _ h, sendRegisterFrame_ok _ _ h, sendRegisterFrame_ok _ _ h]
    exact ⟨rfl, rfl, rfl⟩
  · intro h
    rw [sendRegisterFrame_fault _ _ h, sendRegisterFrame_fault _ _ h, sendRegisterFrame_fault _ _ h]
    exact ⟨rfl, rfl, rfl⟩

/-- Settles O31: RD3 is the freewheel read and RDATA4 the command-based one without its data-ready sample, each answering the
sample as it is. -/
theorem sampleFramesRead : Obligations.SampleFramesRead := by
  intro s
  rw [exec_rd3, exec_rdata4]
  refine ⟨fun h => ?_, fun h => ?_, fun h0 h1 => ?_, fun h0 h1 => ?_⟩
  · rw [readSample_freewheel_ok _ h]
    rfl
  · rw [readSample_freewheel_fault _ h, readSample_rdataFrame_write_fault _ h]
    exact ⟨rfl, rfl⟩
  · rw [readSample_rdataFrame_ok _ h0 h1]
    rfl
  · rw [readSample_rdataFrame_exchange_fault _ h0 h1]

end Sys2Proof.Machine
end

section
/-! SUPPORT. The statements about the encoder (`spec/40_encoder.md`): what the frame of a register write depends on, that both
operands can be read back from it, and the result each of the two operations presents. -/

namespace Sys2Proof.Machine

variable {s t : State}

/-! ### The frame -/

/-- The frame depends on the parameter set through `CMD_WREG` alone (R112). -/
theorem encodeWriteBytes_congr {c c' : Config} (h : c.cmdWreg = c'.cmdWreg) (r : RegAddr) (v : Byte) :
    encodeWriteBytes c r v = encodeWriteBytes c' r v := by
  rw [encodeWriteBytes, encodeWriteBytes, wregByte, wregByte, h]

/-- The first byte gives the register back and the last is the value, so that equal frames have equal operands (R116). -/
theorem encodeWriteBytes_inj {c : Config} (hw : c.wellFormed = true) {r r' : RegAddr} {v v' : Byte} :
    encodeWriteBytes c r v = encodeWriteBytes c r' v' ↔ r = r' ∧ v = v' := by
  constructor
  · intro h
    simp only [encodeWriteBytes, List.cons.injEq, and_true, true_and] at h
    obtain ⟨hfirst, hlast⟩ := h
    have hregister := congrArg (BitVec.extractLsb' 0 5) hfirst
    rw [wregByte_register hw, wregByte_register hw] at hregister
    exact ⟨hregister, hlast⟩
  · rintro ⟨rfl, rfl⟩
    rfl

/-! ### The result -/

theorem exec_encodeWrite_resultPort {r : RegAddr} {v : Byte} (h : exec (.encodeWrite r v) s = .next t) :
    t.resultPort = some ⟨.ok, dataOfFrame (encodeWriteBytes s.cfg r v)⟩ := by
  rw [exec_encodeWrite] at h
  cases h
  exact afterOperation_resultPort ..

theorem exec_encodeCommand_resultPort {code : Byte} (h : exec (.encodeCommand code) s = .next t) :
    t.resultPort = some ⟨.ok, dataOfByte (encodeCommandByte code)⟩ := by
  rw [exec_encodeCommand] at h
  cases h
  exact afterOperation_resultPort ..

/-! ### The statements -/

/-- Settles O8: the result of either operation is its encoder function's value, which reads no more of the state than
`CMD_WREG`; the frame's operands are read back by `wregByte_register`. -/
theorem encoderProperties : Obligations.EncoderProperties := by
  refine ⟨fun s s' t t' r v hcmd ht ht' => ?_, fun s s' t t' b ht ht' => ?_, fun c r v hw => ?_,
    fun c r r' v v' hw => (encodeWriteBytes_inj hw).mp, fun s r v b => ?_⟩
  · rw [exec_encodeWrite_resultPort ht, exec_encodeWrite_resultPort ht', encodeWriteBytes_congr hcmd]
  · rw [exec_encodeCommand_resultPort ht, exec_encodeCommand_resultPort ht']
  · exact ⟨wregByte c r, rfl, wregByte_register hw r⟩
  · exact ⟨_, _, _, _, exec_encodeWrite r v, rfl, exec_encodeCommand b, rfl⟩

/-- Settles O13: the decoder's equation for the row, and the operation's whole next state. -/
theorem encodeWriteResult : Obligations.EncodeWriteResult :=
  ⟨decodeRequest_encodeWrite, fun r v _ => ⟨rfl, exec_encodeWrite r v⟩⟩

/-- Settles O14: the decoder's equation for the row, and the operation's whole next state. -/
theorem encodeCommandResult : Obligations.EncodeCommandResult :=
  ⟨decodeRequest_encodeCommand, fun b _ => ⟨rfl, exec_encodeCommand b⟩⟩

end Sys2Proof.Machine
end

section
/-! SUPPORT. The statements about BRINGUP run to its end and BRINGUP cut short by a bus fault (`spec/41_bringup.md`). -/

namespace Sys2Proof.Machine

/-- R138 lists 24 events: 7 before the first bus call, 4 with the RESET command, 3 for each register write, 3 of the sync pulse
and 4 with the START command, whatever the parameters. -/
theorem bringupEvents_length (c : Config) : (bringupEvents c).length = 24 := rfl

/-- Settles O15: the parts of the sequence, run one after the other where no call fails, and the length of R138's list. -/
theorem bringupCompletes : Obligations.BringupCompletes :=
  fun s h => ⟨exec_bringup_ok h, bringupEvents_length s.cfg⟩

/-- Settles O16: the first call that fails lies in the soft reset (k = 0), in one of the two register writes (k = 1, 2) or in
the soft start (k = 3), and `exec_bringup_fault` gives the next state of each. -/
theorem bringupBusFault : Obligations.BringupBusFault :=
  fun _ _ hk h hf => exec_bringup_fault hk h hf

end Sys2Proof.Machine
end

section
/-! SUPPORT. The statements about SET_CHANNEL (`spec/42_channel_select.md`): the range test read as signed and as unsigned, the
channel its low four bits give, and what the operation does where it accepts and where it rejects the operand. -/

namespace Sys2Proof.Machine

variable {s t : State}

/-! ### The range test -/

/-- R150's test, on the operand read as signed. -/
theorem channelLegal_iff (c : Config) (ch : BitVec 32) :
    channelLegal c ch = true ↔ 0 ≤ ch.toInt ∧ ch.toInt ≤ c.chanMax.toNat := by
  simp [channelLegal]

theorem channelLegal_eq_false_iff (c : Config) (ch : BitVec 32) :
    channelLegal c ch = false ↔ ch.toInt < 0 ∨ (c.chanMax.toNat : Int) < ch.toInt := by
  rw [← Bool.not_eq_true, channelLegal_iff, not_and_or, not_le, not_le]

/-- A negative operand read as unsigned is at least 2^31, above every `CHAN_MAX`, so that one unsigned comparison makes the same
test (R151). -/
theorem channelLegal_iff_toNat (c : Config) (ch : BitVec 32) :
    channelLegal c ch = true ↔ ch.toNat ≤ c.chanMax.toNat := by
  have hword := ch.isLt
  have hmax := c.chanMax.isLt
  rw [channelLegal_iff, BitVec.toInt_eq_toNat_cond]
  split <;> omega

/-- The two spellings of `channel[3:0]`. -/
theorem channelNibble_eq_setWidth (ch : BitVec 32) : channelNibble ch = ch.setWidth 4 :=
  (BitVec.setWidth_eq_extractLsb' (by decide)).symm

/-- What a legal operand leaves in `CHAN` is the channel itself: its upper bits are zero. -/
theorem channelNibble_eq_toInt {c : Config} {ch : BitVec 32} (hl : channelLegal c ch = true) :
    ((channelNibble ch).toNat : Int) = ch.toInt := by
  have hmax := c.chanMax.isLt
  have hnat := (channelLegal_iff_toNat c ch).mp hl
  have hlow : (channelNibble ch).toNat = ch.toNat % 16 := by simp [channelNibble]
  rw [hlow, BitVec.toInt_eq_toNat_of_lt (by omega), Nat.mod_eq_of_lt (by omega)]

/-! ### The operation -/

/-- Past the range test the operation ends with `OK` or `BusFault` (R215). -/
theorem exec_setChannel_legal_resultPort {ch : BitVec 32} (hl : channelLegal s.cfg ch = true)
    (h : exec (.setChannel ch) s = .next t) : t.resultPort = some ⟨.ok, 0⟩ ∨ t.resultPort = some ⟨.busFault, 0⟩ := by
  cases hf : (answer s 0).busFault with
  | false =>
    rw [exec_setChannel_ok hl hf] at h
    cases h
    exact .inl rfl
  | true =>
    rw [exec_setChannel_fault hl hf] at h
    cases h
    exact .inr rfl

/-- Without a fault the trace grows by the frame of the write, which the operand and the parameters alone decide. -/
theorem exec_setChannel_ok_trace {ch : BitVec 32} (hl : channelLegal s.cfg ch = true)
    (hf : (answer s 0).busFault = false) (h : exec (.setChannel ch) s = .next t) :
    t.trace = s.trace ++ writeEvents (encodeWriteBytes s.cfg s.cfg.regInpmux (inpmux s.cfg (channelNibble ch))) := by
  rw [exec_setChannel_ok hl hf] at h
  cases h
  rfl

/-- Without a fault `CHAN` is written and not read (R153). -/
theorem exec_setChannel_ok_setChan {ch : BitVec 32} (hl : channelLegal s.cfg ch = true)
    (hf : (answer s 0).busFault = false) (v : BitVec 4) :
    exec (.setChannel ch) (setChan v s) = exec (.setChannel ch) s := by
  rw [exec_setChannel_ok hl hf, exec_setChannel_ok (s := setChan v s) hl hf]
  rfl

/-! ### The statements -/

/-- Settles O18: the range test splits on the operand read as signed, and past it the environment's answer to the one write. -/
theorem setChannelOutcome : Obligations.SetChannelOutcome := by
  refine ⟨decodeRequest_setChannel, fun ch s => ⟨fun h0 hmax hf => ?_, fun hout => ?_, fun h0 hmax hf => ?_⟩⟩
  · have hl := (channelLegal_iff s.cfg ch).mpr ⟨h0, hmax⟩
    rw [exec_setChannel_ok hl hf, ← channelNibble_eq_setWidth]
    exact ⟨rfl, channelNibble_eq_toInt hl⟩
  · exact exec_setChannel_illegal ((channelLegal_eq_false_iff s.cfg ch).mpr hout)
  · exact exec_setChannel_fault ((channelLegal_iff s.cfg ch).mpr ⟨h0, hmax⟩) hf

/-- Settles O19: the range test as one unsigned comparison; only the operand it rejects ends with InvalidChannel. -/
theorem rejectedChannelsExactly : Obligations.RejectedChannelsExactly := by
  intro ch s t hmax hrun
  have hlegal : channelLegal s.cfg ch = true ↔ ch.toNat ≤ 11 := by
    rw [channelLegal_iff_toNat, hmax]
    rfl
  cases hl : channelLegal s.cfg ch with
  | true =>
    have hin : ¬11 < ch.toNat := not_lt.mpr (hlegal.mp hl)
    rcases exec_setChannel_legal_resultPort hl hrun with hport | hport <;> simp [hport, hin]
  | false =>
    have hout : 11 < ch.toNat := not_le.mp fun h => by simp [hlegal.mpr h] at hl
    rw [exec_setChannel_illegal hl] at hrun
    cases hrun
    simp [hout]

/-- Settles O20: the second operation meets the same range test and the second answer of the environment, so both traces grow by
the frame of the operand. -/
theorem setChannelNoSuppression : Obligations.SetChannelNoSuppression := by
  intro ch s t u h0 hmax hf ht hu
  have hl := (channelLegal_iff s.cfg ch).mpr ⟨h0, hmax⟩
  have hf0 := hf 0 (by decide)
  refine ⟨⟨_, exec_setChannel_ok_trace hl hf0 ht, ?_⟩, fun v => (exec_setChannel_ok_setChan hl hf0 v).trans ht⟩
  rw [exec_setChannel_ok hl hf0] at ht
  cases ht
  exact exec_setChannel_ok_trace hl (by simpa using hf 1 (by decide)) hu

end Sys2Proof.Machine
end

section
/-! SUPPORT. The statements about the data-ready sample and the sample reads (`spec/43_read_handshake.md`): the active-low line,
the two forms in which a sample is answered, and what the freewheel reads do with the environment's answer. -/

namespace Sys2Proof.Machine

variable {s : State}

/-! ### The active-low line -/

/-- R32 with `DRDY_ACTIVE_LOW`: asserted is the pin low. -/
theorem drdyAsserted_activeLow {c : Config} (h : c.drdyActiveLow = true) (m : EnvMoment) :
    drdyAsserted c m = !m.drdyPin := by
  simp [drdyAsserted, h]

theorem drdyAsserted_of_pin {c : Config} (h : c.drdyActiveLow = true) {m : EnvMoment} {v : Bool}
    (hpin : m.drdyPin = v) : drdyAsserted c m = !v := by
  rw [drdyAsserted_activeLow h, hpin]

theorem dataOfBool_not (v : Bool) : dataOfBool (!v) = if v = false then 1 else 0 := by
  cases v <;> rfl

/-! ### A sample as data -/

/-- R181: appending a zero byte multiplies the signed value by 2^8, and the arithmetic shift divides it back. -/
theorem toInt_sampleToInt (r : Sample) : (sampleToInt r).toInt = r.toInt := by
  have happend : (r ++ (0 : Byte) : BitVec 32).toInt = 2 ^ 8 * r.toInt := BitVec.toInt_append_zero
  rw [sampleToInt, BitVec.toInt_sshiftRight, happend, Int.shiftRight_eq_div_pow]
  exact Int.mul_ediv_cancel_left _ (by decide)

/-- R184: the 32-bit integer extended to 56 bits has the sample's signed value, as the sample extended at once has. -/
theorem dataOfInt_sampleToInt (r : Sample) : dataOfInt (sampleToInt r) = r.signExtend 56 := by
  rw [← BitVec.toInt_inj, dataOfInt, BitVec.toInt_signExtend_of_le (by decide), toInt_sampleToInt,
    BitVec.toInt_signExtend_of_le (by decide)]

theorem dataOfSample_low (r : Sample) : (dataOfSample r).extractLsb' 0 24 = r :=
  extractLsb'_setWidth_self (by decide) r

/-- R83: zeros above bit 23. -/
theorem dataOfSample_high (r : Sample) : (dataOfSample r).extractLsb' 24 32 = 0 := by
  refine BitVec.eq_of_getLsbD_eq fun i _ => ?_
  simp [dataOfSample]

/-! ### The freewheel reads -/

/-- An OK result holds the sample captured at the read's one question, in the form the operation answers it. -/
theorem readSample_freewheel_ok_data {g : Sample → Data} {d : Data}
    (h : (readSample rawFreewheel g s).resultPort = some ⟨.ok, d⟩) : d = g (misoSample (answer s 0)) := by
  cases hf : (answer s 0).busFault with
  | false =>
    rw [readSample_freewheel_ok g hf] at h
    cases h
    rfl
  | true =>
    rw [readSample_freewheel_fault g hf] at h
    cases h

/-- R163: of the answer to its one question the read uses the fault and the bytes, not the level of the pin. -/
theorem readSample_freewheel_drdyPin (g : Sample → Data) (m : EnvMoment) (rest : List EnvMoment) (p : Bool) :
    readSample rawFreewheel g { s with env := { m with drdyPin := p } :: rest }
      = readSample rawFreewheel g { s with env := m :: rest } := by
  obtain ⟨busFault, m0, m1, m2, pin⟩ := m
  cases busFault with
  | false => exact (readSample_freewheel_ok g rfl).trans (readSample_freewheel_ok g rfl).symm
  | true => exact (readSample_freewheel_fault g rfl).trans (readSample_freewheel_fault g rfl).symm

/-- The four rows on the freewheel path (R162, R184, R188, R88) differ in the form of their answer alone. -/
theorem exec_freewheel {i : Instr} (h : i = .readRaw ∨ i = .readInt .freewheel ∨ i = .readVolt .freewheel ∨ i = .rd3) :
    ∃ g : Volts → Sample → Data, ∀ s, exec i s = .next (readSample rawFreewheel (g s.vref) s) := by
  rcases h with rfl | rfl | rfl | rfl
  · exact ⟨fun _ => dataOfSample, fun _ => exec_readRaw⟩
  · exact ⟨fun _ r => dataOfInt (sampleToInt r), fun _ => exec_readInt .freewheel⟩
  · exact ⟨fun vref r => intToVolt (sampleToInt r) vref, fun _ => exec_readVolt .freewheel⟩
  · exact ⟨fun _ => dataOfSample, fun _ => exec_rd3⟩

/-! ### The statements -/

/-- Settles O23: the operation is one sample of the line, which is asserted where the pin is low. -/
theorem isDataReadyOutcome : Obligations.IsDataReadyOutcome := by
  refine ⟨decodeRequest_isDataReady, fun s hlow => ?_⟩
  rw [exec_isDataReady, drdyAsserted_activeLow hlow, dataOfBool_not]

/-- Settles O24: the one exchange of the freewheel read succeeds or fails. -/
theorem readRawOutcome : Obligations.ReadRawOutcome := by
  refine ⟨decodeRequest_readRaw, fun s => ?_⟩
  rw [exec_readRaw]
  refine ⟨fun hf => ?_, fun hf => ?_⟩
  · rw [readSample_freewheel_ok _ hf]
    rfl
  · rw [readSample_freewheel_fault _ hf]

/-- Settles O25: the pin decides whether the line is asserted, and past it the first call that fails, if any. -/
theorem readRdataOutcome : Obligations.ReadRdataOutcome := by
  refine ⟨decodeRequest_readRdata, fun s hlow => ?_⟩
  rw [exec_readRdata]
  refine ⟨fun hpin => ?_, fun hpin h1 h2 => ?_, fun hpin h1 => ?_, fun hpin h1 h2 => ?_⟩
  · rw [readSample_rdata_not_ready _ (drdyAsserted_of_pin hlow hpin)]
  · rw [readSample_rdata_ok _ (drdyAsserted_of_pin hlow hpin) h1 h2]
    rfl
  · rw [readSample_rdata_write_fault _ (drdyAsserted_of_pin hlow hpin) h1]
    rfl
  · rw [readSample_rdata_exchange_fault _ (drdyAsserted_of_pin hlow hpin) h1 h2]
    rfl

/-- Settles O39: each of the four rows is the freewheel read, which uses nothing of the pin. -/
theorem freewheelIgnoresDataReady : Obligations.FreewheelIgnoresDataReady := by
  intro i s m rest p hi henv
  obtain ⟨g, hexec⟩ := exec_freewheel hi
  have hs : { s with env := m :: rest } = s := by rw [← henv]
  rw [hexec, hexec, readSample_freewheel_drdyPin, hs]

/-- Settles O40: both operations answer the sample of the same exchange, one zero-extended and one sign-extended. -/
theorem readIntSignExtendsReadRaw : Obligations.ReadIntSignExtendsReadRaw := by
  intro s t u a b ht hu ha hb
  rw [exec_readRaw] at ht
  rw [exec_readInt] at hu
  cases ht
  cases hu
  obtain rfl := readSample_freewheel_ok_data ha
  obtain rfl := readSample_freewheel_ok_data hb
  exact ⟨dataOfSample_high _, by rw [dataOfSample_low, dataOfInt_sampleToInt]⟩

end Sys2Proof.Machine
end

section
/-! SUPPORT. The statements about the converter and about READ_INT and READ_VOLT (`spec/44_conversion.md`): the two
conversions as functions of the signed value, and what an operation with a `path` operand does on each path, whatever form it answers the
sample in. -/

namespace Sys2Proof.Machine

/-! ### The sample as an integer -/

/-- The other definition R181 allows: the sign bit fills the upper byte. -/
theorem sampleToInt_eq_signExtend (r : Sample) : sampleToInt r = r.signExtend 32 := by
  rw [← BitVec.toInt_inj, toInt_sampleToInt, BitVec.toInt_signExtend_of_le (by decide)]

theorem toInt_sampleToInt_mem_range (r : Sample) :
    -2 ^ 23 ≤ (sampleToInt r).toInt ∧ (sampleToInt r).toInt ≤ 2 ^ 23 - 1 := by
  rw [toInt_sampleToInt]
  exact ⟨BitVec.le_toInt r, BitVec.toInt_le⟩

theorem sampleToInt_injective : Function.Injective sampleToInt := fun r r' h => by
  rw [← BitVec.toInt_inj, ← toInt_sampleToInt r, ← toInt_sampleToInt r', h]

/-- Bits 31 to 23 are copies of the sample's sign: bit 23 is the sign bit itself, those above it are filled with it. -/
theorem sampleToInt_getLsbD_upper (r : Sample) {k : Nat} (hlo : 23 ≤ k) (hhi : k ≤ 31) :
    (sampleToInt r).getLsbD k = r.msb := by
  rw [sampleToInt_eq_signExtend, BitVec.getLsbD_signExtend, decide_eq_true (by omega), Bool.true_and]
  split
  · obtain rfl : k = 23 := by omega
    exact (BitVec.msb_eq_getLsbD_last r).symm
  · rfl

/-! ### The product with the reference -/

theorem intToVolt_zero_left (v : Volts) : intToVolt 0 v = 0 := by simp [intToVolt]
theorem intToVolt_zero_right (i : BitVec 32) : intToVolt i 0 = 0 := by simp [intToVolt]

section
variable {i : BitVec 32}

/-- A reference is unsigned, so the extremes of the product are those of the integer times the highest reference. -/
theorem sample_mul_volts_mem_range (hlo : -2 ^ 23 ≤ i.toInt) (hhi : i.toInt ≤ 2 ^ 23 - 1) (v : Volts) :
    -2 ^ 23 * (2 ^ 32 - 1) ≤ i.toInt * (v.toNat : Int) ∧ i.toInt * (v.toNat : Int) ≤ (2 ^ 23 - 1) * (2 ^ 32 - 1) := by
  have hv : (0 : Int) ≤ v.toNat := Int.natCast_nonneg _
  have hword := v.isLt
  have hlow := Int.mul_le_mul_of_nonneg_right hlo hv
  have hhigh := Int.mul_le_mul_of_nonneg_right hhi hv
  omega

/-- R186: the product lies inside the signed range of 56 bits, so that holding it there loses nothing. -/
theorem toInt_intToVolt (hlo : -2 ^ 23 ≤ i.toInt) (hhi : i.toInt ≤ 2 ^ 23 - 1) (v : Volts) :
    (intToVolt i v).toInt = i.toInt * (v.toNat : Int) := by
  obtain ⟨hlow, hhigh⟩ := sample_mul_volts_mem_range hlo hhi v
  exact BitVec.toInt_ofInt_eq_self (by decide) (by omega) (by omega)

/-- R183 with R186, for the integers that are samples. -/
theorem toInt_intToVolt_sampleToInt (r : Sample) (v : Volts) :
    (intToVolt (sampleToInt r) v).toInt = r.toInt * (v.toNat : Int) := by
  obtain ⟨hlo, hhi⟩ := toInt_sampleToInt_mem_range r
  rw [toInt_intToVolt hlo hhi, toInt_sampleToInt]

/-- R186: the reference is unsigned, so a nonzero one leaves the sign as it is. -/
theorem toInt_intToVolt_sign (hlo : -2 ^ 23 ≤ i.toInt) (hhi : i.toInt ≤ 2 ^ 23 - 1) {v : Volts} (hv : v ≠ 0) :
    ((intToVolt i v).toInt < 0 ↔ i.toInt < 0) ∧ (0 < (intToVolt i v).toInt ↔ 0 < i.toInt) := by
  have hpos : (0 : Int) < v.toNat := by
    have hne : v.toNat ≠ 0 := fun h => hv (BitVec.eq_of_toNat_eq h)
    omega
  rw [toInt_intToVolt hlo hhi]
  exact ⟨by simpa using mul_lt_mul_iff_left₀ (c := 0) hpos, mul_pos_iff_of_pos_right hpos⟩

/-- R186: away from the minimum both `i` and `-i` are in the range, and negating the 32-bit word negates its value. -/
theorem toInt_intToVolt_neg (hlo : -2 ^ 23 < i.toInt) (hhi : i.toInt < 2 ^ 23) (v : Volts) :
    (intToVolt (-i) v).toInt = -(intToVolt i v).toInt := by
  have hneg : (-i).toInt = -i.toInt := by
    refine BitVec.toInt_neg_of_ne_intMin fun hmin => ?_
    rw [hmin] at hlo
    exact absurd hlo (by decide)
  rw [toInt_intToVolt (by omega) (by omega), toInt_intToVolt (by omega) (by omega), hneg, neg_mul]

end

/-! ### An operation with a `path` operand -/

/-- What `op`, one of the two operations with a `path` operand, does from `s`, where `data` is the form in which it answers a
sample: the read of the chosen path to its end, or to the event that cuts it short (R162, R164). The path RDATA, which looks at
the data-ready line, is described for an active-low one. -/
structure ReadsByPath (op : ReadPath → Instr) (data : Sample → Data) (s : State) : Prop where
  freewheel_ok (hf : (answer s 0).busFault = false) : exec (op .freewheel) s
    = .next (csHigh (afterOperation (freewheelEvents s.cfg (answer s 0)) 1 ⟨.ok, data (misoSample (answer s 0))⟩ s))
  freewheel_fault (hf : (answer s 0).busFault = true) : exec (op .freewheel) s
    = .next (csHigh (afterOperation freewheelFaultEvents 1 ⟨.busFault, 0⟩ s))
  not_ready (hlow : s.cfg.drdyActiveLow = true) (hpin : (answer s 0).drdyPin = true) : exec (op .rdata) s
    = .next (afterOperation [.drdySample false] 1 ⟨.dataNotReady, 0⟩ s)
  rdata_ok (hlow : s.cfg.drdyActiveLow = true) (hpin : (answer s 0).drdyPin = false)
    (h1 : (answer s 1).busFault = false) (h2 : (answer s 2).busFault = false) : exec (op .rdata) s
    = .next (csHigh (afterOperation (.drdySample true :: rdataEvents s.cfg (answer s 2)) 3
        ⟨.ok, data (misoSample (answer s 2))⟩ s))
  write_fault (hlow : s.cfg.drdyActiveLow = true) (hpin : (answer s 0).drdyPin = false)
    (h1 : (answer s 1).busFault = true) : exec (op .rdata) s
    = .next (csHigh (afterOperation (.drdySample true :: writeFaultEvents) 2 ⟨.busFault, 0⟩ s))
  exchange_fault (hlow : s.cfg.drdyActiveLow = true) (hpin : (answer s 0).drdyPin = false)
    (h1 : (answer s 1).busFault = false) (h2 : (answer s 2).busFault = true) : exec (op .rdata) s
    = .next (csHigh (afterOperation (.drdySample true :: rdataFaultEvents s.cfg) 3 ⟨.busFault, 0⟩ s))

/-- An operation that is the sample read of its path does what that read does. -/
theorem ReadsByPath.of_readSample {op : ReadPath → Instr} {data : Sample → Data} {s : State}
    (hrun : ∀ p, exec (op p) s = .next (readSample (rawByPath p) data s)) : ReadsByPath op data s where
  freewheel_ok hf := (hrun .freewheel).trans (congrArg _ (readSample_freewheel_ok data hf))
  freewheel_fault hf := (hrun .freewheel).trans (congrArg _ (readSample_freewheel_fault data hf))
  not_ready hlow hpin :=
    (hrun .rdata).trans (congrArg _ (readSample_rdata_not_ready data (drdyAsserted_of_pin hlow hpin)))
  rdata_ok hlow hpin h1 h2 :=
    (hrun .rdata).trans (congrArg _ (readSample_rdata_ok data (drdyAsserted_of_pin hlow hpin) h1 h2))
  write_fault hlow hpin h1 :=
    (hrun .rdata).trans (congrArg _ (readSample_rdata_write_fault data (drdyAsserted_of_pin hlow hpin) h1))
  exchange_fault hlow hpin h1 h2 :=
    (hrun .rdata).trans (congrArg _ (readSample_rdata_exchange_fault data (drdyAsserted_of_pin hlow hpin) h1 h2))

theorem readInt_readsByPath (s : State) : ReadsByPath .readInt (fun r => r.signExtend 56) s :=
  .of_readSample fun p => by simp only [exec_readInt, dataOfInt_sampleToInt]

theorem readVolt_readsByPath (s : State) : ReadsByPath .readVolt (fun r => intToVolt (sampleToInt r) s.vref) s :=
  .of_readSample exec_readVolt

/-! ### The statements -/

/-- Settles O9: both sides have the sample's signed value. -/
theorem sampleToIntSignExtends : Obligations.SampleToIntSignExtends := sampleToInt_eq_signExtend

/-- Settles O10: the signed value is kept, which bounds it and tells samples apart; the fixed points are computed. -/
theorem sampleToIntRange : Obligations.SampleToIntRange :=
  ⟨toInt_sampleToInt_mem_range, by decide, by decide, by decide, by decide, by decide, by decide,
    fun _ _ h => sampleToInt_injective h, fun r _ hlo hhi =>
      (sampleToInt_getLsbD_upper r hlo hhi).trans (sampleToInt_getLsbD_upper r (by decide) (by decide)).symm⟩

/-- Settles O11: the product is exact, so its bounds, its sign and its oddness are those of the product of integers. -/
theorem voltageExact : Obligations.VoltageExact := by
  refine ⟨fun i v hlo hhi => ?_, intToVolt_zero_left, intToVolt_zero_right, fun i v hlo hhi =>
    toInt_intToVolt_neg hlo hhi v⟩
  have hexact := toInt_intToVolt hlo hhi v
  obtain ⟨hlow, hhigh⟩ := sample_mul_volts_mem_range hlo hhi v
  exact ⟨hexact, hexact ▸ hlow, hexact ▸ hhigh, toInt_intToVolt_sign hlo hhi⟩

/-- Settles O12: the two samples are -2^23 and 2^23 - 1, and 2^39 = 2^23 * 2^16. -/
theorem fullScaleIsReference : Obligations.FullScaleIsReference := by
  intro v
  have hmin : BitVec.toInt (0x800000 : Sample) = -2 ^ 23 := by decide
  have hmax : BitVec.toInt (0x7FFFFF : Sample) = 2 ^ 23 - 1 := by decide
  rw [toInt_intToVolt_sampleToInt, toInt_intToVolt_sampleToInt, hmin, hmax]
  push_cast
  constructor <;> ring

/-- Settles O26: READ_INT is the sample read of its path, answered sign-extended. -/
theorem readIntOutcome : Obligations.ReadIntOutcome := by
  refine ⟨fun arg => ?_, fun s => ?_⟩
  · rw [decodeRequest_readInt, pathOfBit_extractLsb']
  · have h := readInt_readsByPath s
    exact ⟨h.freewheel_ok, h.freewheel_fault, h.not_ready, h.rdata_ok, h.write_fault, h.exchange_fault⟩

/-- Settles O27: READ_VOLT is the sample read of its path, answered as the product with `VREF`, which 56 bits hold exactly. -/
theorem readVoltOutcome : Obligations.ReadVoltOutcome := by
  refine ⟨fun arg => ?_, fun s => ?_⟩
  · rw [decodeRequest_readVolt, pathOfBit_extractLsb']
  · have h := readVolt_readsByPath s
    have hexact (m : EnvMoment) := toInt_intToVolt_sampleToInt (misoSample m) s.vref
    exact ⟨fun hf => ⟨_, hexact _, h.freewheel_ok hf⟩, h.freewheel_fault, h.not_ready,
      fun hlow hpin h1 h2 => ⟨_, hexact _, h.rdata_ok hlow hpin h1 h2⟩, h.write_fault, h.exchange_fault⟩

end Sys2Proof.Machine
end

section
/-! SUPPORT. The statements about SET_REFERENCE (`spec/45_reference_select.md`): the mode as an equality test on the operand, and
what the operation adds to the trace and does not read where its write goes out. -/

namespace Sys2Proof.Machine

variable {s t : State}

/-- Any value but 2.5 V, with no tolerance, selects the external reference (R201). -/
theorem refModeOf_eq_external (v : Volts) : refModeOf v = .external ↔ v ≠ internalVolts := by
  simp [refModeOf]

/-- Without a fault the trace grows by the frame of the write, which the operand and the parameters alone decide. -/
theorem exec_setReference_ok_trace {v : Volts} (hf : (answer s 0).busFault = false)
    (h : exec (.setReference v) s = .next t) :
    t.trace
      = s.trace ++ writeEvents (encodeWriteBytes s.cfg s.cfg.regRef (refPattern s.cfg (refModeOf v))) := by
  rw [exec_setReference_ok v hf] at h
  cases h
  rfl

/-- Without a fault `VREF` and `REFMODE` are written and not read (R204): the operation's own writes cover any made before. -/
theorem exec_setReference_ok_setRef (v w : Volts) (m : RefMode) (hf : (answer s 0).busFault = false) :
    exec (.setReference v) (setRef w m s) = exec (.setReference v) s := by
  rw [exec_setReference_ok v hf, exec_setReference_ok (s := setRef w m s) v hf]
  rfl

/-- Settles O21: the environment's answer to the one write, and, where it goes out, the operand's equality with 2.5 V, which
fixes mode and pattern. -/
theorem setReferenceOutcome : Obligations.SetReferenceOutcome := by
  refine ⟨decodeRequest_setReference, fun v s => ⟨fun hv hf => ?_, fun hv hf => ?_, exec_setReference_fault v⟩⟩
  · rw [exec_setReference_ok v hf, (refModeOf_eq_internal v).mpr hv]
    rfl
  · rw [exec_setReference_ok v hf, (refModeOf_eq_external v).mpr hv]
    rfl

/-- Settles O22: the write's frame is in the trace, and the outcome does not change with the two registers. -/
theorem setReferenceNoSuppression : Obligations.SetReferenceNoSuppression := by
  intro v w m s t hf hrun
  exact ⟨⟨_, exec_setReference_ok_trace hf hrun⟩, (exec_setReference_ok_setRef v w m hf).trans hrun⟩

end Sys2Proof.Machine
end

section
/-! SUPPORT. The statements about errors (`spec/60_exceptions.md`): the forms in which an operation ends, one inversion lemma
over them for every instruction, and a state for each status that makes the operations end with it; and the reserved codes. -/

namespace Sys2Proof.Machine

variable {s t : State} {i : Instr} {x : Status}

/-! ### The forms in which an operation ends -/

/-- What an operation leaves of `s`, by the status it ends with (R210): for an error the whole next state (R211, R212, R214,
R216), a bus fault inside a frame apart from one in BRINGUP; for OK the result port. -/
inductive Ending (s : State) : Status → State → Prop where
  | ok {t : State} {d : Data} (presented : t.resultPort = some ⟨.ok, d⟩) : Ending s .ok t
  | invalidChannel : Ending s .invalidChannel (afterOperation [] 0 ⟨.invalidChannel, 0⟩ s)
  | illegalOp : Ending s .illegalOp (afterOperation [] 0 ⟨.illegalOp, 0⟩ s)
  | dataNotReady : Ending s .dataNotReady (afterOperation [.drdySample false] 1 ⟨.dataNotReady, 0⟩ s)
  | frameClosed (events : List Event) (questions : Nat) :
      Ending s .busFault (csHigh (afterOperation events questions ⟨.busFault, 0⟩ s))
  | unpowered (events : List Event) (questions : Nat) :
      Ending s .busFault (bringupRegisters .unpowered (afterOperation events questions ⟨.busFault, 0⟩ s))

/-- The status of a form is the one presented. -/
theorem Ending.status_eq {r : Result} (h : Ending s x t) (hport : t.resultPort = some r) : r.status = x := by
  cases h with
  | ok presented =>
    rw [presented] at hport
    cases hport
    rfl
  | invalidChannel | illegalOp | dataNotReady | frameClosed _ _ | unpowered _ _ =>
    cases hport
    rfl

/-- R211, R212, R214: the whole next state where no bus call was made. -/
theorem Ending.precise (h : Ending s x t) :
    (x = .invalidChannel ∨ x = .illegalOp → t = afterOperation [] 0 ⟨x, 0⟩ s)
      ∧ (x = .dataNotReady → t = afterOperation [.drdySample false] 1 ⟨.dataNotReady, 0⟩ s) := by
  cases h with
  | invalidChannel | illegalOp => exact ⟨fun _ => rfl, by simp⟩
  | dataNotReady => exact ⟨by simp, fun _ => rfl⟩
  | ok _ | frameClosed _ _ | unpowered _ _ => exact ⟨by simp, by simp⟩

/-- R217: a bus fault leaves `CS` high, and `RST` and `SYNC` high where they were. -/
theorem Ending.lines_high (h : Ending s .busFault t) (hrst : s.rst = true) (hsync : s.sync = true) :
    t.cs = true ∧ t.rst = true ∧ t.sync = true := by
  cases h with
  | frameClosed _ _ => exact ⟨rfl, hrst, hsync⟩
  | unpowered _ _ => exact ⟨rfl, rfl, rfl⟩

/-! ### Transactions and sample reads -/

/-- A bus call, the k-th question: where it fails the frame is closed with BusFault, and where it succeeds the operation goes
on. -/
theorem ending_of_call {events : List Event} {questions : Nat} (k : Nat)
    (hok : (answer s k).busFault = false → Ending s .ok t ∨ Ending s .busFault t)
    (hfault : (answer s k).busFault = true → t = csHigh (afterOperation events questions ⟨.busFault, 0⟩ s)) :
    Ending s .ok t ∨ Ending s .busFault t := by
  cases h : (answer s k).busFault with
  | false => exact hok h
  | true =>
    rw [hfault h]
    exact .inr (.frameClosed events questions)

/-- Where no call is left the operation ends with OK. -/
theorem ending_of_ok {events : List Event} {questions : Nat} {d : Data}
    (h : t = csHigh (afterOperation events questions ⟨.ok, d⟩ s)) : Ending s .ok t ∨ Ending s .busFault t := by
  rw [h]
  exact .inl (.ok rfl)

theorem sendCommandFrame_ending (code : Byte) (s : State) :
    Ending s .ok (sendCommandFrame code s) ∨ Ending s .busFault (sendCommandFrame code s) :=
  ending_of_call 0 (fun h => ending_of_ok (sendCommandFrame_ok code h)) (sendCommandFrame_fault code)

theorem sendRegisterFrame_ending (r : RegAddr) (v : Byte) (s : State) :
    Ending s .ok (sendRegisterFrame r v s) ∨ Ending s .busFault (sendRegisterFrame r v s) :=
  ending_of_call 0 (fun h => ending_of_ok (sendRegisterFrame_ok r v h)) (sendRegisterFrame_fault r v)

theorem readSample_freewheel_ending (g : Sample → Data) (s : State) :
    Ending s .ok (readSample rawFreewheel g s) ∨ Ending s .busFault (readSample rawFreewheel g s) :=
  ending_of_call 0 (fun h => ending_of_ok (readSample_freewheel_ok g h)) (readSample_freewheel_fault g)

theorem readSample_rdataFrame_ending (g : Sample → Data) (s : State) :
    Ending s .ok (readSample rdataFrame g s) ∨ Ending s .busFault (readSample rdataFrame g s) :=
  ending_of_call 0
    (fun h0 => ending_of_call 1 (fun h1 => ending_of_ok (readSample_rdataFrame_ok g h0 h1))
      (readSample_rdataFrame_exchange_fault g h0))
    (readSample_rdataFrame_write_fault g)

/-- R165: the data-ready sample comes before the frame, so that a false one is all that was done. -/
theorem readSample_rdata_ending (g : Sample → Data) (s : State) :
    Ending s .dataNotReady (readSample rawRdata g s)
      ∨ (Ending s .ok (readSample rawRdata g s) ∨ Ending s .busFault (readSample rawRdata g s)) := by
  cases hr : drdyAsserted s.cfg (answer s 0) with
  | false =>
    rw [readSample_rdata_not_ready g hr]
    exact .inl .dataNotReady
  | true =>
    exact .inr (ending_of_call 1
      (fun h1 => ending_of_call 2 (fun h2 => ending_of_ok (readSample_rdata_ok g hr h1 h2))
        (readSample_rdata_exchange_fault g hr h1))
      (readSample_rdata_write_fault g hr))

/-! ### Every operation -/

/-- The operation ends in a form whose status its row of R215's table allows. -/
def EndsByTable (s : State) (i : Instr) : Prop :=
  ∃ (x : Status) (t : State), mayEndWith i x = true ∧ exec i s = .next t ∧ Ending s x t

/-- An operation of a row that allows OK and BusFault. -/
theorem EndsByTable.of_ok_or_busFault (hrun : exec i s = .next t) (hok : mayEndWith i .ok = true)
    (hfault : mayEndWith i .busFault = true) (h : Ending s .ok t ∨ Ending s .busFault t) : EndsByTable s i := by
  rcases h with h | h
  · exact ⟨_, t, hok, hrun, h⟩
  · exact ⟨_, t, hfault, hrun, h⟩

/-- An operation of a row that allows DataNotReady besides. -/
theorem EndsByTable.of_rdata (g : Sample → Data) (hrun : exec i s = .next (readSample rawRdata g s))
    (hnot : mayEndWith i .dataNotReady = true) (hok : mayEndWith i .ok = true)
    (hfault : mayEndWith i .busFault = true) : EndsByTable s i := by
  rcases readSample_rdata_ending g s with h | h
  · exact ⟨_, _, hnot, hrun, h⟩
  · exact .of_ok_or_busFault hrun hok hfault h

theorem exec_setChannel_endsByTable (s : State) (ch : BitVec 32) : EndsByTable s (.setChannel ch) := by
  cases hl : channelLegal s.cfg ch with
  | false => exact ⟨_, _, rfl, exec_setChannel_illegal hl, .invalidChannel⟩
  | true =>
    cases h : (answer s 0).busFault with
    | false => exact ⟨_, _, rfl, exec_setChannel_ok hl h, .ok rfl⟩
    | true => exact ⟨_, _, rfl, exec_setChannel_fault hl h, .frameClosed _ _⟩

theorem exec_setReference_endsByTable (s : State) (v : Volts) : EndsByTable s (.setReference v) := by
  cases h : (answer s 0).busFault with
  | false => exact ⟨_, _, rfl, exec_setReference_ok v h, .ok rfl⟩
  | true => exact ⟨_, _, rfl, exec_setReference_fault v h, .frameClosed _ _⟩

theorem exec_bringup_endsByTable (s : State) : EndsByTable s .bringup := by
  rcases noFault_or_first_fault s 4 with h | ⟨k, hk, h, hf⟩
  · exact ⟨_, _, rfl, exec_bringup_ok h, .ok rfl⟩
  · exact ⟨_, _, rfl, exec_bringup_fault hk h hf, .unpowered _ _⟩

/-- The inversion lemma of `exec` by status: every operation ends in one of the forms, with a status of its row. -/
theorem exec_endsByTable (s : State) (i : Instr) : EndsByTable s i := by
  cases i with
  | bringup => exact exec_bringup_endsByTable s
  | encodeWrite r v => exact ⟨_, _, rfl, exec_encodeWrite r v, .ok rfl⟩
  | encodeCommand code => exact ⟨_, _, rfl, exec_encodeCommand code, .ok rfl⟩
  | setChannel ch => exact exec_setChannel_endsByTable s ch
  | setReference v => exact exec_setReference_endsByTable s v
  | isDataReady => exact ⟨_, _, rfl, exec_isDataReady, .ok rfl⟩
  | readRaw => exact .of_ok_or_busFault exec_readRaw rfl rfl (readSample_freewheel_ending _ s)
  | readRdata => exact .of_rdata _ exec_readRdata rfl rfl rfl
  | readInt p =>
    cases p with
    | freewheel => exact .of_ok_or_busFault (exec_readInt _) rfl rfl (readSample_freewheel_ending _ s)
    | rdata => exact .of_rdata _ (exec_readInt _) rfl rfl rfl
  | readVolt p =>
    cases p with
    | freewheel => exact .of_ok_or_busFault (exec_readVolt _) rfl rfl (readSample_freewheel_ending _ s)
    | rdata => exact .of_rdata _ (exec_readVolt _) rfl rfl rfl
  | reservedAB low => exact ⟨_, _, rfl, exec_reservedAB low, .illegalOp⟩
  | reservedCF low => exact ⟨_, _, rfl, exec_reservedCF low, .illegalOp⟩
  | cmdNop | cmdWakeup | cmdPowerdown | cmdReset | cmdStart | cmdStop | cmdSyocal | cmdSygcal | cmdSfocal | cmdRreg =>
    exact .of_ok_or_busFault rfl rfl rfl (sendCommandFrame_ending _ s)
  | wreg _ _ | wregInpmux _ _ | wregRef _ =>
    exact .of_ok_or_busFault rfl rfl rfl (sendRegisterFrame_ending _ _ s)
  | rd3 => exact .of_ok_or_busFault exec_rd3 rfl rfl (readSample_freewheel_ending _ s)
  | rdata4 => exact .of_ok_or_busFault exec_rdata4 rfl rfl (readSample_rdataFrame_ending _ s)

/-- The same of a run and the result it presents. -/
theorem exec_ending {r : Result} (hrun : exec i s = .next t) (hport : t.resultPort = some r) :
    mayEndWith i r.status = true ∧ Ending s r.status t := by
  obtain ⟨x, t', hmay, hexec, hend⟩ := exec_endsByTable s i
  rw [hexec] at hrun
  cases hrun
  obtain rfl := hend.status_eq hport
  exact ⟨hmay, hend⟩

/-! ### For each status, a state that provokes it -/

/-- What the environment answers all along so that the operations that can end with a status do: calls fail for BusFault, the
data-ready pin is high, not asserted, for DataNotReady, and neither for the others. -/
def provokingMoment (x : Status) : EnvMoment := ⟨x == .busFault, 0, 0, 0, x == .dataNotReady⟩

/-- Block reset with four such answers to come, as many as any operation asks for (BRINGUP). -/
def provoking (x : Status) : State := { State.reset with env := List.replicate 4 (provokingMoment x) }

/-- From `provoking x` an operation ends with `x` wherever its row allows it: SET_CHANNEL with channel 12 for
InvalidChannel and channel 0 for the others (R150). -/
theorem exists_ending_of_mayEndWith (h : mayEndWith i x = true) :
    ∃ (j : Instr) (t : State) (d : Data), (j = i ∨ ∃ ch ch', i = .setChannel ch ∧ j = .setChannel ch')
      ∧ exec j (provoking x) = .next t ∧ t.resultPort = some ⟨x, d⟩ := by
  cases i with
  | encodeWrite _ _ | encodeCommand _ | isDataReady =>
    obtain rfl : x = .ok := by simpa [mayEndWith] using h
    exact ⟨_, _, _, .inl rfl, rfl, rfl⟩
  | reservedAB _ | reservedCF _ =>
    obtain rfl : x = .illegalOp := by simpa [mayEndWith] using h
    exact ⟨_, _, _, .inl rfl, rfl, rfl⟩
  | setChannel ch =>
    obtain (rfl | rfl) | rfl : (x = .ok ∨ x = .invalidChannel) ∨ x = .busFault := by simpa [mayEndWith] using h
    · exact ⟨.setChannel 0, _, _, .inr ⟨ch, 0, rfl, rfl⟩, rfl, rfl⟩
    · exact ⟨.setChannel 12, _, _, .inr ⟨ch, 12, rfl, rfl⟩, rfl, rfl⟩
    · exact ⟨.setChannel 0, _, _, .inr ⟨ch, 0, rfl, rfl⟩, rfl, rfl⟩
  | readRdata =>
    obtain (rfl | rfl) | rfl : (x = .ok ∨ x = .dataNotReady) ∨ x = .busFault := by simpa [mayEndWith] using h
    all_goals exact ⟨_, _, _, .inl rfl, rfl, rfl⟩
  | readInt p | readVolt p =>
    cases p with
    | freewheel =>
      obtain rfl | rfl : x = .ok ∨ x = .busFault := by simpa [mayEndWith] using h
      all_goals exact ⟨_, _, _, .inl rfl, rfl, rfl⟩
    | rdata =>
      obtain (rfl | rfl) | rfl : (x = .ok ∨ x = .dataNotReady) ∨ x = .busFault := by simpa [mayEndWith] using h
      all_goals exact ⟨_, _, _, .inl rfl, rfl, rfl⟩
  | bringup | setReference _ | readRaw | cmdNop | cmdWakeup | cmdPowerdown | cmdReset | cmdStart | cmdStop | cmdSyocal
  | cmdSygcal | cmdSfocal | cmdRreg | wreg _ _ | wregInpmux _ _ | wregRef _ | rd3 | rdata4 =>
    obtain rfl | rfl : x = .ok ∨ x = .busFault := by simpa [mayEndWith] using h
    all_goals exact ⟨_, _, _, .inl rfl, rfl, rfl⟩

/-! ### Acceptance -/

/-- R246: an idle block accepts in any phase what is not of the table's last row. -/
theorem accepts_request_any_phase {w : RequestWord} (hidle : s.busy = false)
    (h : readyOnly (decodeRequest w) = false) : accepts s (.request w) = true := by
  simp [accepts, phaseAdmits, decode, hidle, h]

/-! ### The statements -/

/-- Settles O32: where the table allows a status, `provoking` gives a state that ends with it; the other way, an operation ends
with a status of its row, and SET_CHANNEL has one row for all channels. -/
theorem statusTable : Obligations.StatusTable := by
  intro i x _
  constructor
  · intro h
    obtain ⟨j, t, d, hj, hrun, hport⟩ := exists_ending_of_mayEndWith h
    exact ⟨j, provoking x, t, d, hj, hrun, hport⟩
  · rintro ⟨j, s, t, d, hj, hrun, hport⟩
    obtain ⟨hmay, -⟩ := exec_ending hrun hport
    rcases hj with rfl | ⟨ch, ch', rfl, rfl⟩
    · exact hmay
    · exact hmay

/-- Settles O34: the form of each of the three statuses is the whole next state. -/
theorem errorsArePrecise : Obligations.ErrorsArePrecise := by
  intro i s t r hrun hport
  obtain ⟨-, hend⟩ := exec_ending hrun hport
  exact hend.precise

/-- Settles O35: a BusFault closes the frame and leaves `RST` and `SYNC`, or it ends a BRINGUP, which has driven all three
high. -/
theorem busFaultLeavesLinesHigh : Obligations.BusFaultLeavesLinesHigh := by
  intro i s t d hrst hsync hrun hport
  obtain ⟨-, hend⟩ := exec_ending hrun hport
  exact hend.lines_high hrst hsync

/-- Settles O28: the word decodes to one of the two reserved rows, which no phase holds back and which end in one form. -/
theorem reservedCodesEndIllegal : Obligations.ReservedCodesEndIllegal := by
  intro s w hop
  rcases (reservedCodesExactly w).mp hop with ⟨low, h⟩ | ⟨low, h⟩
  · exact ⟨(accepts_request_any_phase · (by rw [h]; rfl)), by rw [h, exec_reservedAB]⟩
  · exact ⟨(accepts_request_any_phase · (by rw [h]; rfl)), by rw [h, exec_reservedCF]⟩

end Sys2Proof.Machine
end

section
/-! SUPPORT. The statements about acceptance, the order of the results, the end of a run, and block reset
(`spec/70_reset_and_hazards.md`). -/

namespace Sys2Proof.Machine

variable {s t : State}

/-! ### The table of acceptance (R246) -/

/-- The requests accepted in any phase, by operation code: the rows of R246's table above its last, and R214's codes. -/
theorem readyOnly_decodeRequest_eq_false_iff (w : RequestWord) :
    readyOnly (decodeRequest w) = false ↔
      RequestWord.op w = 0x0 ∨ RequestWord.op w = 0x1 ∨ RequestWord.op w = 0x2 ∨ 0xA ≤ (RequestWord.op w).toNat := by
  cases w using requestWord_rows with
  | reservedAB low arg =>
    have hcode := (reservedCodesExactly _).mpr (.inl ⟨low, decodeRequest_reservedAB arg low⟩)
    exact iff_of_true (by rw [decodeRequest_reservedAB]; rfl) (.inr (.inr (.inr hcode)))
  | reservedCF low arg =>
    have hcode := (reservedCodesExactly _).mpr (.inr ⟨low, decodeRequest_reservedCF arg low⟩)
    exact iff_of_true (by rw [decodeRequest_reservedCF]; rfl) (.inr (.inr (.inr hcode)))
  | _ => simp [readyOnly]

/-- What a request has to wait for: an idle block, and `Ready` where its operation needs it. -/
theorem accepts_request_iff (s : State) (w : RequestWord) :
    accepts s (.request w) = true ↔ s.busy = false ∧ (s.phase = .ready ∨ readyOnly (decodeRequest w) = false) := by
  simp [accepts, phaseAdmits, or_comm]

/-- An idle block in `Ready` accepts whatever is presented. -/
theorem accepts_of_ready (hidle : s.busy = false) (hready : s.phase = .ready) (c : Code) : accepts s c = true := by
  cases hd : decode s.cfg c with
  | error e => exact accepts_of_decode_error hidle hd
  | ok i => simp [accepts, phaseAdmits, hidle, hready, hd]

/-- A request word with operation code 0x0 is a BRINGUP (R81). -/
theorem decodeRequest_of_op_zero {b : RequestWord} (h : RequestWord.op b = 0x0) : decodeRequest b = .bringup := by
  rw [← op_append_arg b, h]
  exact decodeRequest_bringup _

/-- R246: an idle block accepts a BRINGUP in any phase. -/
theorem accepts_bringup (hidle : s.busy = false) {b : RequestWord} (h : RequestWord.op b = 0x0) :
    accepts s (.request b) = true :=
  accepts_request_any_phase hidle (by rw [decodeRequest_of_op_zero h]; rfl)

/-! ### What a step leaves at the ports -/

/-- The operation of a step leaves the held requests at the port, and its result goes behind theirs (R246, R247). -/
theorem exec_acceptRequest_ports {before after : List Code} {i : Instr}
    (h : exec i (acceptRequest before after s) = .next t) :
    t.pending = before ++ after
      ∧ ∃ r, t.resultPort = some r ∧ t.results = fillSlot r before.length s.results := by
  obtain ⟨t', r, hrun, hport, hresults, -, -, -, -, hpending, -⟩ := everyOperationEnds i (acceptRequest before after s)
  rw [hrun] at h
  cases h
  exact ⟨hpending, r, hport, hresults⟩

/-- R246: a step keeps what it does not accept. -/
theorem step_keeps_held {c : Code} (hc : c ∈ s.pending) (hheld : accepts s c = false) (hstep : step s = .next t) :
    c ∈ t.pending := by
  rcases step_cases s with ⟨-, hs⟩ | ⟨before, d, after, e, -, -, hs⟩ | ⟨before, d, after, i, hnext, -, hs⟩
  · rw [hs] at hstep
    cases hstep
    rwa [hostTakes_pending]
  · rw [hs] at hstep
    cases hstep
  · obtain ⟨hsplit, hd, -⟩ := takeFirst_some hnext
    have hne : c ≠ d := by
      rintro rfl
      exact Bool.false_ne_true (hheld.symm.trans hd)
    obtain ⟨hpending, -⟩ := exec_acceptRequest_ports (hs ▸ hstep)
    rw [hsplit] at hc
    rw [hpending]
    simpa [hne] using hc

/-- Where a result goes, in the words of the statements: the place that has as many unanswered requests before it as are held
(R247). -/
theorem resultOf_fillSlot_at {r : Result} {n : Nat} (h : t.results = fillSlot r n s.results) :
    ∃ k, resultOf t k = some r ∧ resultOf s k = none ∧ unansweredBefore s k = n
      ∧ ∀ j, j ≠ k → resultOf t j = resultOf s j := by
  obtain ⟨k, hnone, hcount, hsome, hothers⟩ := fillSlot_spec r n s.results
  simp only [resultOf, unansweredBefore, h]
  exact ⟨k, hsome, hnone, hcount, hothers⟩

/-! ### A BRINGUP behind what is held -/

/-- A step that takes a BRINGUP which no bus fault cuts short ends in `Ready`, the held requests still at the port. -/
theorem step_bringup_ok {before after : List Code} {b : RequestWord} (hp : s.pending = before ++ .request b :: after)
    (hbefore : ∀ d ∈ before, accepts s d = false) (hidle : s.busy = false) (hb : RequestWord.op b = 0x0)
    (hok : noFault s 4) :
    ∃ t, step s = .next t ∧ t.phase = .ready ∧ t.busy = false ∧ t.pending = before ++ after := by
  have hd : decode s.cfg (.request b) = .ok .bringup := by rw [decode_request, decodeRequest_of_op_zero hb]
  have hok' : noFault (acceptRequest before after (hostTakes s)) 4 := hok.of_answer (answer_hostTakes s)
  rw [stepRunsAcceptedRequest s before after _ _ hp hbefore (accepts_bringup hidle hb) hd, exec_bringup_ok hok']
  exact ⟨_, rfl, rfl, rfl, rfl⟩

/-! ### The end of a run (R247) -/

theorem runEnded_iff (s : State) : runEnded s = true ↔ s.pending = [] ∧ s.busy = false := by simp [runEnded]

theorem stuck_iff (s : State) :
    stuck s = true ↔ s.busy = false ∧ s.pending ≠ [] ∧ ∀ c ∈ s.pending, accepts s c = false := by
  simp [stuck, nextAccepted, takeFirst_none, and_assoc]

/-- Neither an ended run nor a stuck block has a request that is accepted. -/
theorem accepts_none_of_ended_or_stuck (h : runEnded s = true ∨ stuck s = true) :
    ∀ c ∈ s.pending, accepts s c = false := by
  rcases h with h | h
  · obtain ⟨hnil, -⟩ := (runEnded_iff s).mp h
    simp [hnil]
  · obtain ⟨-, -, hheld⟩ := (stuck_iff s).mp h
    exact hheld

/-- A stuck block is not in `Ready`, where it would accept what it holds. -/
theorem phase_ne_ready_of_stuck (h : stuck s = true) : s.phase ≠ .ready := by
  obtain ⟨hidle, hne, hheld⟩ := (stuck_iff s).mp h
  obtain ⟨c, hc⟩ := List.exists_mem_of_ne_nil _ hne
  intro hready
  exact Bool.false_ne_true ((hheld c hc).symm.trans (accepts_of_ready hidle hready c))

/-- The result port is no part of the outcome of a run (R28, R247). -/
theorem runOutcome_hostTakes (s : State) : runOutcome (hostTakes s) = runOutcome s := by simp [runOutcome]

/-! ### The statements -/

/-- Settles O43: the table by the row of the word, and the step by whether it waits or runs a request. -/
theorem acceptanceTable : Obligations.AcceptanceTable := by
  refine ⟨fun s w => ?_, fun s c hc hheld t => step_keeps_held hc hheld, fun s => step_waits⟩
  rw [accepts_request_iff, readyOnly_decodeRequest_eq_false_iff]

/-- Settles O44: the step takes the BRINGUP, which ends in `Ready`, and `Ready` accepts the request it left at the port. -/
theorem heldRequestRunsAfterBringup : Obligations.HeldRequestRunsAfterBringup := by
  intro s w b hidle hphase hp hw hb hok
  have hheld : accepts s (.request w) = false := by
    rw [← Bool.not_eq_true, accepts_request_iff]
    simp [hphase, hw]
  obtain ⟨t, hstep, hready, hidle', hpending⟩ :=
    step_bringup_ok (before := [.request w]) (after := []) hp (by simpa using hheld) hidle hb hok
  exact ⟨t, hstep, hready, hpending,
    stepRunsAcceptedRequest t [] [] _ _ hpending (by simp) (accepts_of_ready hidle' hready _) rfl⟩

/-- Settles O54: the step runs the accepted request with as many held before it as `before` counts, and its result fills the
place with so many empty ones before it. -/
theorem resultsInRequestOrder : Obligations.ResultsInRequestOrder := by
  intro s t before after c i hp hbefore hc hd hstep
  rw [stepRunsAcceptedRequest s before after c i hp hbefore hc hd] at hstep
  obtain ⟨-, r, hport, hresults⟩ := exec_acceptRequest_ports hstep
  obtain ⟨k, hsome, hnone, hcount, hothers⟩ := resultOf_fillSlot_at (hostTakes_results s ▸ hresults)
  exact ⟨k, r, hport, hsome, hnone, hcount, hothers⟩

/-- Settles O55: an idle block that accepts nothing has an empty port or holds something; its step is the host's taking, and in
a phase other than `Ready` it still accepts a BRINGUP. -/
theorem runEndedOrStuck : Obligations.RunEndedOrStuck := by
  refine ⟨runEnded_iff, fun s hidle hheld => ?_, fun s t h hstep => ?_, fun s b h hb => ?_⟩
  · by_cases hnil : s.pending = []
    · exact .inl ⟨(runEnded_iff s).mpr ⟨hnil, hidle⟩, by simp [← Bool.not_eq_true, stuck_iff, hnil]⟩
    · exact .inr ⟨by simp [← Bool.not_eq_true, runEnded_iff, hnil], (stuck_iff s).mpr ⟨hidle, hnil, hheld⟩⟩
  · rw [step_waits (accepts_none_of_ended_or_stuck h)] at hstep
    cases hstep
    exact ⟨runOutcome_hostTakes s, hostTakes_pending s⟩
  · obtain ⟨hidle, -, hheld⟩ := (stuck_iff s).mp h
    exact ⟨phase_ne_ready_of_stuck h, takeFirst_append hheld (accepts_bringup hidle hb)⟩

/-- Settles O46: the reset state field by field (R240). -/
theorem blockResetValues : Obligations.BlockResetValues := fun c =>
  ⟨resetWith_phase c, resetWith_chan c, resetWith_vref c, resetWith_refmode c, resetWith_cs c, resetWith_rst c,
    resetWith_sync c, resetWith_busy c, resetWith_resultPort c, resetWith_trace c⟩

/-- Settles O47: nothing is presented at reset, so the step is the host's taking, and the host lists none. -/
theorem resetBlockWaits : Obligations.ResetBlockWaits := by
  have hwaits : ∀ c ∈ State.reset.pending, accepts State.reset c = false := fun _ hc => absurd hc List.not_mem_nil
  exact (step_waits hwaits).trans (congrArg _ (hostTakes_of_nil _ rfl))

end Sys2Proof.Machine
end
